-- ==== Sys2Proof/Word.lean ====
section
/-! DEFINITION. The widths of the values that the spec treats as bits. -/

namespace Sys2Proof

/-- A character of the party line, of the telephone line or of a cell: eight bits (R1, R173). -/
abbrev Byte := BitVec 8

/-- A station address: four bits (00_scope section 2, R174). -/
abbrev Addr := BitVec 4

/-- One row of 480 dots: bit `p` is head position `p`, numbered from the left edge (00_scope section 7). -/
abbrev Dots := BitVec 480

/-- The 72 readings of one matrix scan: bit `p` is the position drive line × 9 + sense line (R37, R38). -/
abbrev Matrix := BitVec 72

end Sys2Proof
end

