-- ==== Sys2Proof/Config.lean ====
section
/-! DEFINITION. What the part fixes (the spec's constants, each with its rule) and the free values: what the spec leaves
open. A free value is an `opaque` constant without a body, so nothing can be proved of the value. -/

namespace Sys2Proof.Config

/-! ## Constants of the spec -/

/-- Cells in a block (R2). -/
def blockCells : Nat := 16
/-- Blocks in the pool (R3). -/
def poolBlocks : Nat := 64
/-- Cap of TXQ in blocks (R5). -/
def txqCap : Nat := 16
/-- Cap of PRQ in blocks (R5). -/
def prqCap : Nat := 56
/-- Cap of FWQ in blocks (R5). -/
def fwqCap : Nat := 24
/-- Records the key FIFO holds (R51). -/
def keyFifoSize : Nat := 16
/-- Records one KEYS message carries at most (R51). -/
def keysPerMessage : Nat := 8
/-- Cells one RECEIVED TEXT message carries at most (R10). -/
def cellsPerMessage : Nat := 32
/-- Entries the reply queue holds (R186). -/
def replyQueueSize : Nat := 4
/-- Attempts after which a message is discarded (R180). -/
def maxAttempts : Nat := 16
/-- Longest body on the party line (R174). -/
def maxBody : Nat := 64
/-- The quiet budget of listen-only, in mA (R126, R169). -/
def quietBudget : Nat := 250
/-- The allowance in use while the record is stale, in mA (R157). -/
def staleAllowance : Nat := 400
/-- The largest allowance or claim taken from the wire, in mA (R184). -/
def maxCurrent : Nat := 5000
/-- Age, in ticks, at which the allowance record is stale (R156). -/
def recordStaleAge : Nat := 30
/-- Age, in ticks, at which a neighbour's entry is removed (R159). -/
def entryDropAge : Nat := 25
/-- Fixed load of the core, in mA (R160). -/
def coreLoad : Nat := 15
/-- Fixed load of the Beeper, in mA (R36, R160). -/
def beeperLoad : Nat := 20
/-- Carrier load, in mA (R96, R160). -/
def carrierLoad : Nat := 35
/-- Hysteresis of the raise test, in mA (R162). -/
def raiseHysteresis : Nat := 100
/-- Closed readings that seat the cups (R78). -/
def seatReadings : Nat := 50
/-- Largest run count of the demodulator's windows (R65). -/
def runMax : Nat := 15
/-- Station kind of the 4130 in PRESENT (R195). -/
def stationKind : Byte := 4
/-- Revision that the part sends in PRESENT (R195). -/
def revision : Byte := 1

/-! ## Times, in µs of the 1 MHz time base -/

/-- Full scan of the matrix (R38). -/
def scanPeriod : Nat := 5000
/-- Doze scan (R57, R98). -/
def dozeScanPeriod : Nat := 50000
/-- Cup reading (R78). -/
def cupPeriod : Nat := 1000
/-- Carrier window (R65). -/
def windowPeriod : Nat := 10000
/-- Watch sample (R118). -/
def watchPeriod : Nat := 50000
/-- Tick of the Budget Unit (R156, R159). -/
def budgetTickPeriod : Nat := 100000
/-- Settle timer (R163). -/
def settleTime : Nat := 40000
/-- Restate timer (R167). -/
def restateTime : Nat := 1000000
/-- Park timer (R168). -/
def parkTime : Nat := 1000000
/-- Raise barrier per unit of own address (R165). -/
def barrierUnit : Nat := 100000
/-- Raise barrier at wake from DOZE (R170). -/
def wakeBarrier : Nat := 1000000
/-- Space of a break (R73). -/
def breakSpaceTime : Nat := 250000
/-- Mark guard after a break (R73). -/
def breakGuardTime : Nat := 50000
/-- Unseat timer (R88). -/
def unseatTime : Nat := 1000000
/-- Silence of DROPPING (R94). -/
def silenceTime : Nat := 1000000
/-- Cool-down of the head (R124). -/
def coolDown : Nat := 100000
/-- Load of one burst (R130). -/
def loadTime : Nat := 240
/-- One half-step of the paper motor (R132). -/
def halfStepTime : Nat := 1250
/-- KEYS gather timer (R183). -/
def keysGatherTime : Nat := 10000
/-- RECEIVED TEXT gather timer (R183). -/
def textGatherTime : Nat := 20000
/-- Setup window (R191). -/
def setupWindowTime : Nat := 2000000
/-- PRESENT delay per unit of own address (R190). -/
def presentUnit : Nat := 10000
/-- The click (R34). -/
def clickTime : Nat := 5000
/-- The bell (R34). -/
def bellTime : Nat := 200000
/-- One tone, or the silence between the tones, of the error beep (R34). -/
def errorToneTime : Nat := 60000

/-! ## Free values: what the spec leaves open -/

/-- The dots of the printable glyphs in their 5 by 7 pattern, by code, pattern row and pattern column. R117 fixes them "in the
ROM" and prints only the space, the underscore and the special glyphs (log entry 1, DESIGN CHOICE: a free value). -/
opaque glyphRom : (code : Nat) → (row : Nat) → (col : Nat) → Bool

/-- The bits of a body character that R195 names no use for, by message kind and character number: the unused high bits of a
STATUS, KEYS or RECEIVED TEXT character (log entry 2, DESIGN CHOICE: a free value). -/
opaque spareBits : (kind : Nat) → (index : Nat) → Byte

/-- What STATUS carries in the mode bit and in characters 10 to 12 while no call parameters are held: R195 gives their
codes only for parameters that are present (log entry 3, DESIGN CHOICE: a free value). -/
opaque absentParams : (index : Nat) → Byte

/-- The controller address taken from a SETUP value of 16 to 255: R189 says what 0, the own address and 15 give and is silent
on the rest (log entry 4, DESIGN CHOICE: a free value, kept within 1 to 14 by the operation that reads it). -/
opaque controllerAbove15 : (value : Byte) → (sender : Addr) → Nat

end Sys2Proof.Config
end

