-- ==== Sys2Proof/Syntax.lean ====
section
/-! DEFINITION. The commands of the part: one constructor per row of spec/opcode_table.json, with the operands each carries
from outside. A command whose moment the state fixes (a timer's end, the end of a phase) carries no time. -/

namespace Sys2Proof

/-- What the print sensing pins read when a step samples them: the converter's codes of VSENSE and TSENSE (R118), PAPER high
when paper is under the head and DOOR high when the print door is closed (R145). -/
structure Sense where
  vc : Byte
  tc : Byte
  paper : Bool
  door : Bool
  deriving DecidableEq, Repr

/-- The moment of an event that comes from outside: the count of the 1 MHz time base at which it comes, and what the print
sensing pins read then, for a step that takes a sample. -/
structure Moment where
  t : Nat
  sense : Sense
  deriving DecidableEq, Repr

/-- A stretch of the party line: its level, high or low, and its length in µs (R172). -/
structure WireRun where
  high : Bool
  length : Nat
  deriving DecidableEq, Repr

/-- What the wire does from the moment up to which the receiver has read it: stretches one after another, each change of level
an edge. -/
abbrev Wave := List WireRun

/-- Why the receiver discards a message it is taking (R176; a break on the wire is an event of its own). -/
inductive RejectCause where
  | badCheck
  | badLength
  | framing
  /-- A character whose marker bit is 1 has completed first; it is the head of a new message. -/
  | newMarker (head : Byte)
  | idleWire
  deriving DecidableEq, Repr

/-- The commands. The party line's events carry the wave in which the receiver finds them. A request or broadcast named by its
kind is a message taken for delivery, given with its source and body (for a CALL or a PRINT CONTROL, the body's characters after
the action); the moment is that of the middle of its check's stop bit. -/
inductive Instr where
  | powerOnReset (straps : Addr) (rateHigh : Bool) (sense : Sense)
  | presentDelayExpiry
  | setupWindowExpiry
  | keyboardScan (keys : Matrix) (sense : Sense)
  | repeatTimerExpiry (sense : Sense)
  | dozeScan (keys : Matrix) (cupA cupB : Bool) (sense : Sense)
  | soundEnd
  | cupsUnseated (cupA cupB : Bool)
  | cupsSeated
  | micEdge (t : Nat)
  | carrierWindowEnd
  | receivedCharacter
  | receivedBreak
  | characterBoundary
  | breakSpaceEnd
  | breakGuardEnd
  | loopTestEnd
  | carrierWaitExpiry
  | fadeExpiry
  | unseatExpiry
  | silenceExpiry
  | takePrqCell (m : Moment)
  | idleFlushExpiry (sense : Sense)
  | watchSample (sense : Sense)
  | burstPhaseEnd
  | halfStepStart
  | dotLineEnd (sense : Sense)
  | budgetTick
  | settleExpiry (sense : Sense)
  | raiseBarrierExpiry
  | restateExpiry
  | parkExpiry
  | sendWaitEnd (wave : Wave)
  | attemptCompleted
  /-- `bit` is the number, from 0 at the start bit of the head, of the released bit that read 0. -/
  | attemptLost (bit : Nat)
  /-- `bit` is the number of the bit driven low that read 1. -/
  | lineFault (bit : Nat)
  | wireBreak (wave : Wave)
  | messageReceived (wave : Wave) (sense : Sense)
  /-- `cause` names which of the discards of R176 it is. -/
  | messageRejected (wave : Wave) (cause : RejectCause)
  | keysGatherExpiry
  | receivedTextGatherExpiry
  | allowance (m : Moment) (src : Addr) (body : List Byte)
  | claim (m : Moment) (src : Addr) (body : List Byte)
  | present (m : Moment) (src : Addr) (body : List Byte)
  | unknownKind (m : Moment) (src : Addr) (kind : Byte) (body : List Byte)
  | setup (m : Moment) (src : Addr) (body : List Byte)
  | printText (m : Moment) (src : Addr) (body : List Byte)
  | sendText (m : Moment) (src : Addr) (body : List Byte)
  | originate (m : Moment) (src : Addr) (args : List Byte)
  | answer (m : Moment) (src : Addr) (args : List Byte)
  | drop (m : Moment) (src : Addr) (args : List Byte)
  | breakRequest (m : Moment) (src : Addr) (args : List Byte)
  | loopTest (m : Moment) (src : Addr) (args : List Byte)
  | hold (m : Moment) (src : Addr) (args : List Byte)
  | resume (m : Moment) (src : Addr) (args : List Byte)
  | stopNow (m : Moment) (src : Addr) (args : List Byte)
  | stepLine (m : Moment) (src : Addr) (args : List Byte)
  | setDarkness (m : Moment) (src : Addr) (args : List Byte)
  | setWidth (m : Moment) (src : Addr) (args : List Byte)
  | routing (m : Moment) (src : Addr) (body : List Byte)
  | statusQuery (m : Moment) (src : Addr) (body : List Byte)
  | doze (m : Moment) (src : Addr) (body : List Byte)
  | enterDoze
  | restart (m : Moment) (src : Addr) (broadcast : Bool) (body : List Byte)
  | rawDotLine (m : Moment) (src : Addr) (body : List Byte)
  | cupSwitchReading (cupA cupB : Bool)
  | receiveSampleEvent
  | frameBitStart
  | testAccumulatorCrossing
  | markerCharacterInDoze (wave : Wave) (sense : Sense)
  deriving DecidableEq, Repr

end Sys2Proof
end

