-- ==== Sys2Proof/Machine/State.lean ====
section
/-! DEFINITION. The state of the part, block by block (00_scope section 3), as plain data; the reasons a step can stop; and the
state right after power-on reset. -/

namespace Sys2Proof.Machine

/-- A timer: none while it is stopped, and otherwise the count of the time base at which it ends. -/
abbrev Timer := Option Nat

/-! ## Text Pool (chapter 1) -/

/-- A cell: a character code and its flags (R1). -/
structure Cell where
  code : Byte
  parity : Bool := false
  framing : Bool := false
  noise : Bool := false
  lostBefore : Bool := false
  lineBreak : Bool := false
  deriving DecidableEq, Repr

/-- The three chains (R4). -/
inductive Chain where
  | txq
  | prq
  | fwq
  deriving DecidableEq, Repr

/-- A block in a chain (R2): its number, the cells written into it so far (their number is the fill count) and the consumed
count. Its link is the next block of its chain's list. -/
structure Block where
  id : Nat
  cells : List Cell
  consumed : Nat
  deriving DecidableEq, Repr

/-- The Text Pool: the free stack, top first (R3), the three chains, head first (R4), the lost-pending flags (R13) and FWQ's
in-message count (R10). -/
structure Pool where
  free : List Nat
  txq : List Block
  prq : List Block
  fwq : List Block
  prqLost : Bool
  fwqLost : Bool
  fwqInMessage : Nat
  deriving DecidableEq, Repr

/-! ## Router and Beeper (chapter 2) -/

inductive Duplex where
  | full
  | half
  deriving DecidableEq, Repr

inductive KeyTarget where
  | line
  | controller
  | both
  deriving DecidableEq, Repr

inductive ReceiveCopy where
  | print
  | controller
  | both
  deriving DecidableEq, Repr

/-- The four routing settings (R18). -/
structure Routing where
  duplex : Duplex
  target : KeyTarget
  copy : ReceiveCopy
  echo : Bool
  deriving DecidableEq, Repr

/-- The outbound flow state (R30). -/
inductive FlowState where
  | clear
  | pendingStop
  | stopped
  | pendingGo
  deriving DecidableEq, Repr

/-- The codes of outbound flow control (R29). -/
inductive FlowCode where
  | stop
  | go
  deriving DecidableEq, Repr

/-- The Router: settings (R18), local mode (R20), outbound flow state with the code in flight (R30) and the remote-stopped
flag (R33). -/
structure Router where
  routing : Routing
  localMode : Bool
  flow : FlowState
  inFlight : Option FlowCode
  remoteStopped : Bool
  deriving DecidableEq, Repr

/-- The Beeper's sounds (R34). -/
inductive Sound where
  | none
  | click
  | bell
  | error
  deriving DecidableEq, Repr

/-- The Beeper: the current sound, when it began, and its end time (R34). -/
structure Beeper where
  sound : Sound
  started : Nat
  ends : Timer
  deriving DecidableEq, Repr

/-! ## Keyboard Scanner (chapter 3) -/

inductive KeyState where
  | up
  | down
  | blocked
  deriving DecidableEq, Repr

/-- What the scanner keeps of a position: debounced level, debounce count, key state (R39). -/
structure KeyPos where
  level : Bool
  count : Nat
  st : KeyState
  deriving DecidableEq, Repr

inductive KeyEvent where
  | down
  | up
  | again
  deriving DecidableEq, Repr

/-- A key event record (R49); a code of none is the code none. -/
structure KeyRecord where
  pos : Nat
  event : KeyEvent
  shift : Bool
  ctrl : Bool
  caps : Bool
  code : Option Byte
  lostBefore : Bool
  deriving DecidableEq, Repr

/-- The Keyboard Scanner (R39, R44, R47, R48, R51, R52) with the timers of its scans (R38, R57). -/
structure Keyboard where
  keys : List KeyPos
  caps : Bool
  candidate : Option Nat
  repeatTimer : Timer
  fifo : List KeyRecord
  inMessage : Nat
  keyLost : Bool
  scanTimer : Timer
  dozeTimer : Timer
  deriving DecidableEq, Repr

/-! ## Coupler signal path (chapter 4) and Call Controller (chapter 5) -/

inductive Rate where
  | b110
  | b150
  | b300
  deriving DecidableEq, Repr

inductive DataFormat where
  | seven
  | sevenEven
  | sevenOdd
  | sevenMark
  | sevenSpace
  | eight
  deriving DecidableEq, Repr

inductive StopBits where
  | one
  | two
  deriving DecidableEq, Repr

/-- A character format (R62). -/
structure Format where
  rate : Rate
  data : DataFormat
  stop : StopBits
  deriving DecidableEq, Repr

inductive Mode where
  | originate
  | answer
  deriving DecidableEq, Repr

/-- The call parameters (R80). -/
structure CallParams where
  mode : Mode
  fmt : Format
  deriving DecidableEq, Repr

inductive CallState where
  | idle
  | ready
  | loop
  | origWait
  | ansTone
  | online
  | fading
  | dropping
  deriving DecidableEq, Repr

inductive DropCause where
  | timeout
  | fade
  | handset
  | requested
  deriving DecidableEq, Repr

/-- The Call Controller: the cup-switch state with its seating filter (R78), the call state (R79), the call parameters (R80),
the muted and break-in-progress flags (R88, R91), the timers, the drop cause (R94), and the cup-switch state at entry to LOOP
(R93). `cupTimer` is the next millisecond reading. -/
structure Call where
  seated : Bool
  filter : Nat
  cupTimer : Timer
  st : CallState
  params : Option CallParams
  muted : Bool
  breakInProgress : Bool
  carrierWait : Timer
  fade : Timer
  unseat : Timer
  silence : Timer
  dropCause : Option DropCause
  loopSeated : Bool
  deriving DecidableEq, Repr

inductive ModState where
  | silent
  | carrier
  | character
  | breakSpace
  | breakGuard
  deriving DecidableEq, Repr

/-- What a frame carries: a TXQ cell or a flow code (section 4.5). -/
inductive FrameKind where
  | cell
  | flow (c : FlowCode)
  deriving DecidableEq, Repr

/-- The frame being sent: its code and kind, its bits (true is mark), and the bit being sent. -/
structure Frame where
  code : Byte
  kind : FrameKind
  bits : List Bool
  bit : Nat
  deriving DecidableEq, Repr

/-- The loop test in progress (R75 to R77): when it began, the bit time being sent (0 to 384), the tone sample clock events
since the start, the test accumulator, the crossings not yet handed to the classifier, and the comparison so far. -/
structure LoopTest where
  started : Nat
  bit : Nat
  samples : Nat
  phase : BitVec 16
  due : List Nat
  recovered : Nat
  mismatched : Nat
  deriving DecidableEq, Repr

/-- The Coupler Modulator (R59, R61, R71 to R76). `bitSamples` counts the sample events since the start of the bit. The muted
flag is the Call Controller's. -/
structure Modulator where
  st : ModState
  phase : BitVec 16
  increment : Nat
  baudAcc : BitVec 24
  bitSamples : Nat
  frame : Option Frame
  breakTimer : Timer
  test : Option LoopTest
  deriving DecidableEq, Repr

inductive SamplerState where
  | waitMark
  | hunt
  | assemble
  | framingHeld
  | breakSuppress
  deriving DecidableEq, Repr

/-- The receive sampler (R66 to R70). `due` counts the overflows of the baud accumulator not yet handled as sample events;
`sample` is the number of the last sample within the bit, `bit` the number of the bit within the frame (0 is the start bit),
`trio` the samples 7 and 8 read so far, `bits` the data and parity bits taken (true is 1). -/
structure Sampler where
  st : SamplerState
  baudAcc : BitVec 24
  due : Nat
  sample : Nat
  bit : Nat
  confirmed : Bool
  trio : List Bool
  bits : List Bool
  noise : Bool
  breakCount : Nat
  deriving DecidableEq, Repr

/-- The Coupler Demodulator (R63 to R65): its output (true is mark), the last crossing time, the window and its counts, and
the sampler. -/
structure Demodulator where
  output : Bool
  lastCrossing : Option Nat
  windowCount : Nat
  windowTimer : Timer
  presentRun : Nat
  absentRun : Nat
  sampler : Sampler
  deriving DecidableEq, Repr

/-! ## Line Assembler (chapter 6) -/

/-- A glyph (R117): a printable one by its code, or a special one. -/
inductive Glyph where
  | printable (code : Byte)
  | error
  | lost
  | lineBreak
  deriving DecidableEq, Repr

/-- A cell of an image (R99): empty, a primary glyph, or a primary and a secondary one. -/
inductive ImageCell where
  | empty
  | one (primary : Glyph)
  | two (primary secondary : Glyph)
  deriving DecidableEq, Repr

inductive ImageState where
  | free
  | opened
  | waiting
  | printing
  deriving DecidableEq, Repr

/-- A text-line image (R99). -/
structure Image where
  st : ImageState
  wide : Bool
  darkness : Nat
  cells : List ImageCell
  blanksAfter : Nat
  order : Nat
  deriving DecidableEq, Repr

/-- The two images by name. -/
inductive ImageId where
  | one
  | two
  deriving DecidableEq, Repr

/-- The Line Assembler (chapter 6). `nextOrder` is the close order the next close gives. -/
structure Assembler where
  image1 : Image
  image2 : Image
  column : Nat
  crFlag : Bool
  truncating : Bool
  carried : List Glyph
  stagedDarkness : Nat
  stagedWide : Bool
  flushTimer : Timer
  formPosition : Nat
  committed : Nat
  nextOrder : Nat
  deriving DecidableEq, Repr

/-! ## Print Engine (chapters 7 and 8) -/

inductive EngineState where
  | idle
  | claiming
  | printing
  | held
  deriving DecidableEq, Repr

/-- The eight hold conditions, highest priority first (R144). -/
inductive Hold where
  | stopped
  | headHot
  | lowVoltage
  | batteryCritical
  | doorOpen
  | paperOut
  | budget
  | controllerHold
  deriving DecidableEq, Repr

/-- The set of hold conditions present (R144). -/
structure HoldSet where
  stopped : Bool := false
  headHot : Bool := false
  lowVoltage : Bool := false
  batteryCritical : Bool := false
  doorOpen : Bool := false
  paperOut : Bool := false
  budget : Bool := false
  controllerHold : Bool := false
  deriving DecidableEq, Repr

/-- The step in force (R151, R152). A line step whose extent is a raw dot line ends with that dot line. -/
inductive Step where
  | none
  | line (untilRaw : Bool)
  | dot
  deriving DecidableEq, Repr

/-- The stages of a dot line in progress: the load of a burst, its phases, and the ADVANCE (R130, R132). -/
inductive Stage where
  | load
  | p1
  | p2
  | p3
  | advance
  deriving DecidableEq, Repr

/-- The dot line record (chapter 7): where the dot line comes from (R131), its pattern, its figures (R120, R121, R125), its
budget (R126), the bursts still to make, the present one first (R127, R128), the stage and when it ends, the half-steps made
(R132), and whether the history has been shifted for it already (R135). `starting` says that a half-step begins at `ends`, the
one before it or the last phase having ended there. -/
structure DotLine where
  raw : Bool
  pattern : Dots
  darkness : Nat
  dotOhms : Nat
  motor : Nat
  dotCurrent : Nat
  heat : Nat
  p1 : Nat
  p2 : Nat
  p3 : Nat
  budget : Nat
  bursts : List Dots
  stage : Stage
  ends : Nat
  halfSteps : Nat
  starting : Bool
  shifted : Bool
  deriving DecidableEq, Repr

/-- The run in hand (R138): the PRINTING image or a PAPER FEED line, with the text line being printed (0 is the image's own)
and the dot line within it (R134). `image` is none for a PAPER FEED. -/
structure Run where
  image : Option ImageId
  line : Nat
  dot : Nat
  deriving DecidableEq, Repr

/-- The Print Engine. -/
structure Engine where
  st : EngineState
  holds : HoldSet
  holdAsked : Bool
  budgetAsked : Bool
  cause : Option Hold
  holdCount : BitVec 8
  step : Step
  stoppedLine : Option DotLine
  rawWaiting : Option Dots
  run : Option Run
  inProgress : Option DotLine
  previous : Dots
  beforePrevious : Dots
  lastShift : Option Nat
  motorPhase : BitVec 3
  vc : Byte
  tc : Byte
  dotCurrent : Nat
  lastHeat : Nat
  lastBursts : Nat
  watchTimer : Timer
  deriving DecidableEq, Repr

/-! ## Budget Unit (chapter 9) -/

/-- The battery states an ALLOWANCE carries (R156). -/
inductive Battery where
  | normal
  | low
  | critical
  deriving DecidableEq, Repr

/-- The battery state in use (R157). -/
inductive BatteryInUse where
  | normal
  | low
  | critical
  | unknown
  deriving DecidableEq, Repr

/-- The allowance record (R156). -/
structure Allowance where
  mA : Nat
  battery : Battery
  source : Addr
  age : Nat
  deriving DecidableEq, Repr

/-- An entry of the neighbour claim table (R158). -/
structure Neighbour where
  addr : Addr
  mA : Nat
  age : Nat
  deriving DecidableEq, Repr

/-- The raise state, with the value being raised to (R162, R163). -/
inductive Raise where
  | none
  | asking (mA : Nat)
  | settling (mA : Nat)
  deriving DecidableEq, Repr

/-- The Budget Unit (chapter 9). The own fixed load is worked out from the call (R96, R160). -/
structure Budget where
  record : Option Allowance
  table : List Neighbour
  own : Nat
  completed : Nat
  granted : Nat
  raise : Raise
  settleTimer : Timer
  restateTimer : Timer
  parkTimer : Timer
  barrierTimer : Timer
  tickTimer : Timer
  deriving DecidableEq, Repr

/-! ## Line Interface and Message Unit (chapters 10 and 11) -/

/-- Why the granted budget changed (R171). -/
inductive BudgetCause where
  | settle
  | lower
  | park
  | doze
  deriving DecidableEq, Repr

/-- The events a FLOW notice names (R187). -/
inductive FlowEvent where
  | stopSent
  | goSent
  | stopReceived
  | goReceived
  deriving DecidableEq, Repr

/-- The ten kinds of notice, in notice-code order (R187, R195). -/
inductive NoticeKind where
  | carrierUp
  | carrierDown
  | handset
  | printHeld
  | printResumed
  | flow
  | breakReceived
  | loopResult
  | keyLost
  | budget
  deriving DecidableEq, Repr

/-- A notice with its detail (R187). -/
inductive Notice where
  | carrierUp (params : CallParams)
  | carrierDown (cause : DropCause) (left : CallState)
  | handset (seated muted : Bool)
  | printHeld (cause : Hold) (holds : HoldSet) (count : BitVec 8)
  | printResumed (count : BitVec 8) (entered : EngineState)
  | flow (event : FlowEvent)
  | breakReceived (count : Nat)
  | loopResult (sent mismatches : Nat) (aborted : Bool)
  | keyLost
  | budget (granted available : Nat) (cause : BudgetCause)
  deriving DecidableEq, Repr

/-- The routing of a kind of notice (R187). -/
inductive NoticeRoute where
  | off
  | controller
  | all
  deriving DecidableEq, Repr

/-- The setup record (R189). -/
structure Setup where
  controller : Addr
  dotOhms : Nat
  ceiling : Nat
  motor : Nat
  darkness : Nat
  formLength : Nat
  truncate : Bool
  strip : Bool
  flushSeconds : Nat
  repeatDelay : Nat
  repeatRate : Nat
  click : Bool
  flowEnable : Bool
  stopCode : Byte
  goCode : Byte
  lowMark : Nat
  highMark : Nat
  loud : Bool
  carrierWait : Nat
  fadeLimit : Nat
  routes : List NoticeRoute
  routing : Routing
  deriving DecidableEq, Repr

/-- The CLAIM slot (R182): the value, its attempt count, and a value handed while an attempt carries the first. -/
structure ClaimSlot where
  mA : Nat
  count : Nat
  next : Option Nat
  deriving DecidableEq, Repr

/-- An entry of the reply queue (R186): a REPLY or a STATUS, whole. -/
structure ReplyEntry where
  dest : Addr
  kind : Byte
  body : List Byte
  count : Nat
  deriving DecidableEq, Repr

/-- An entry of the notice queue (R187). `changed` says that its contents were replaced while an attempt carried it (R180), and
`since` counts the breaks counted since that attempt began. -/
structure NoticeEntry where
  notice : Notice
  dest : Addr
  count : Nat
  changed : Bool
  since : Nat
  deriving DecidableEq, Repr

/-- A built KEYS message (R51). -/
structure KeysMessage where
  dest : Addr
  records : List KeyRecord
  count : Nat
  deriving DecidableEq, Repr

/-- A built RECEIVED TEXT message (R10). -/
structure TextMessage where
  dest : Addr
  cells : List Cell
  count : Nat
  deriving DecidableEq, Repr

/-- The six outbound slots, in the transmitter's order (R181). -/
inductive Slot where
  | claim
  | reply
  | notice
  | keys
  | text
  | present
  deriving DecidableEq, Repr

/-- An attempt in progress (R179): the slot it serves, the characters it carries, when its first start bit began, and since when
the wire had been high then. -/
structure Attempt where
  slot : Slot
  bytes : List Byte
  started : Nat
  highSince : Nat
  deriving DecidableEq, Repr

/-- The receiver's character state between steps (R173): looking for a start edge, waiting for the wire to be read high, or
reading a character whose start edge fell at a moment and of which some bits have been read. -/
inductive CharState where
  | hunting
  | waitHigh
  | reading (edge : Nat) (bits : List Bool)
  deriving DecidableEq, Repr

/-- Why a message is being taken (R175). -/
inductive Purpose where
  | delivery
  | conflict
  deriving DecidableEq, Repr

/-- What the receiver finds on the wire: a message it was taking discarded, a break, a marker character in DOZE, or a complete,
valid message that it has taken (R175, R176, R194). -/
inductive WireEvent where
  | rejected (cause : RejectCause)
  | lineBreak
  | marker (head : Byte)
  | complete (purpose : Purpose) (bytes : List Byte)
  deriving DecidableEq, Repr

/-- The receiver's message state (R175). -/
inductive MessageState where
  | waiting
  | taking (purpose : Purpose) (soFar : List Byte)
  deriving DecidableEq, Repr

/-- The Line Interface (chapter 10). `readTo` is the moment up to which the receiver has read the wire. The wire was last read
low or high by `wireLow`, and the idle count and the low count are the time since `wireSince`. While an attempt runs the wire
is what the attempt makes it. -/
structure Line where
  addr : Addr
  fast : Bool
  chars : CharState
  message : MessageState
  readTo : Nat
  wireLow : Bool
  wireSince : Nat
  claimSlot : Option ClaimSlot
  replies : List ReplyEntry
  notices : List NoticeEntry
  keysSlot : Option KeysMessage
  textSlot : Option TextMessage
  presentSlot : Option Nat
  attempt : Option Attempt
  retry : Bool
  listenOnly : Bool
  deriving DecidableEq, Repr

inductive OpState where
  | start
  | run
  | doze
  deriving DecidableEq, Repr

inductive WindowState where
  | waitingPresent
  | opened
  | closed
  deriving DecidableEq, Repr

/-- The Message Unit (chapter 11); its queues stand in the slots of the Line Interface. -/
structure MessageUnit where
  op : OpState
  dozePending : Bool
  window : WindowState
  windowTimer : Timer
  presentTimer : Timer
  setup : Setup
  keysTimer : Timer
  keysDue : Bool
  textTimer : Timer
  textDue : Bool
  deriving DecidableEq, Repr

/-! ## Pins -/

/-- Pins (00_scope section 4). Inputs hold what was last read; the sense codes stand in the engine's latest readings. A strobe
bit is set while its /STB output is driven low; motor bits 0 to 3 are MA to MD. LEVEL, TONE, BEEP and PLINE are worked out from the
blocks that drive them. -/
structure Pins where
  straps : Addr
  rateHigh : Bool
  keys : Matrix
  paper : Bool
  door : Bool
  cupA : Bool
  cupB : Bool
  mic : Bool
  strobes : BitVec 8
  motor : BitVec 4
  head : Dots
  deriving DecidableEq, Repr

/-! ## The whole state -/

/-- The state: the commands waiting, first in, first out; the count of the 1 MHz time base; the twelve blocks; the pins. -/
structure State where
  pending : List Instr
  now : Nat
  pool : Pool
  router : Router
  beeper : Beeper
  kbd : Keyboard
  mod : Modulator
  demod : Demodulator
  call : Call
  asm : Assembler
  eng : Engine
  bud : Budget
  line : Line
  msg : MessageUnit
  pins : Pins
  deriving DecidableEq, Repr

/-- The reasons for which the part itself stops. There is none: every condition the spec reports (a refused request, a hold, a
discarded message, a loss) is an effect on the state, after which the part goes on. -/
inductive Fault where
  deriving DecidableEq, Repr

/-- The reasons for which the model answers no meaning. -/
inductive Refusal where
  /-- Raised by the dispatcher alone, for a command whose meaning is not written; safe, since no claim can be proved of it. -/
  | notModelled (mnemonic : String)
  deriving DecidableEq, Repr

/-! ## Updates, one per block -/

namespace State
def setPending (s : State) (x : List Instr) : State := { s with pending := x }
def setNow (s : State) (x : Nat) : State := { s with now := x }
def setPool (s : State) (x : Pool) : State := { s with pool := x }
def setRouter (s : State) (x : Router) : State := { s with router := x }
def setBeeper (s : State) (x : Beeper) : State := { s with beeper := x }
def setKbd (s : State) (x : Keyboard) : State := { s with kbd := x }
def setMod (s : State) (x : Modulator) : State := { s with mod := x }
def setDemod (s : State) (x : Demodulator) : State := { s with demod := x }
def setCall (s : State) (x : Call) : State := { s with call := x }
def setAsm (s : State) (x : Assembler) : State := { s with asm := x }
def setEng (s : State) (x : Engine) : State := { s with eng := x }
def setBud (s : State) (x : Budget) : State := { s with bud := x }
def setLine (s : State) (x : Line) : State := { s with line := x }
def setMsg (s : State) (x : MessageUnit) : State := { s with msg := x }
def setPins (s : State) (x : Pins) : State := { s with pins := x }
end State

/-! ## After power-on reset -/

/-- The pool after power-on reset: all blocks free, block 0 on top of the free stack (R3, R4, R10, R13; log entry 27). -/
def Pool.reset : Pool :=
  { free := List.range Config.poolBlocks, txq := [], prq := [], fwq := [], prqLost := false, fwqLost := false,
    fwqInMessage := 0 }

/-- The routing defaults of the setup record at its defaults (R18). -/
def Routing.default : Routing := { duplex := .full, target := .line, copy := .print, echo := false }

/-- The Router after power-on reset or RESTART (R18, R20, R30, R33), with its settings. -/
def Router.reset (r : Routing) : Router :=
  { routing := r, localMode := false, flow := .clear, inFlight := none, remoteStopped := false }

/-- The Beeper after power-on reset and RESTART (R34). -/
def Beeper.reset : Beeper := { sound := .none, started := 0, ends := none }

/-- The scanner after power-on reset and RESTART (R43), its first scan due one period after `now` (log entry 9). -/
def Keyboard.reset (now : Nat) : Keyboard :=
  { keys := List.replicate 72 { level := false, count := 0, st := .up }, caps := false, candidate := none,
    repeatTimer := none, fifo := [], inMessage := 0, keyLost := false, scanTimer := some (now + Config.scanPeriod),
    dozeTimer := none }

/-- The modulator after power-on reset and RESTART (R59, R61, R71). -/
def Modulator.reset : Modulator :=
  { st := .silent, phase := 0, increment := 0, baudAcc := 0, bitSamples := 0, frame := none, breakTimer := none, test := none }

/-- The sampler as it begins: WAIT-MARK, its baud accumulator and break count at 0 and nothing gathered (R61, R66). That it stands so
while stopped after power-on reset and RESTART is the model's choice (log entry 53, DESIGN CHOICE). -/
def Sampler.reset : Sampler :=
  { st := .waitMark, baudAcc := 0, due := 0, sample := 0, bit := 0, confirmed := false, trio := [], bits := [],
    noise := false, breakCount := 0 }

/-- The demodulator after power-on reset and RESTART, not listening (R63). R63 gives the output, the last crossing time and the
counts their values at a fresh start only: that they have the same here is the model's choice (log entry 53, DESIGN CHOICE). -/
def Demodulator.reset : Demodulator :=
  { output := true, lastCrossing := none, windowCount := 0, windowTimer := none, presentRun := 0, absentRun := 0,
    sampler := Sampler.reset }

/-- The Call Controller after power-on reset (R78, R80). -/
def Call.reset : Call :=
  { seated := false, filter := 0, cupTimer := some Config.cupPeriod, st := .idle, params := none, muted := false,
    breakInProgress := false, carrierWait := none, fade := none, unseat := none, silence := none, dropCause := none,
    loopSeated := false }

/-- A FREE image: it holds nothing (R99, R116). -/
def Image.freed : Image := { st := .free, wide := false, darkness := 0, cells := [], blanksAfter := 0, order := 0 }

/-- The Line Assembler after power-on reset or RESTART (R99, R100), with its staged darkness. The next close order starts at 0
(log entry 41). -/
def Assembler.reset (darkness : Nat) : Assembler :=
  { image1 := .freed, image2 := .freed, column := 0, crFlag := false, truncating := false, carried := [],
    stagedDarkness := darkness, stagedWide := false, flushTimer := none, formPosition := 0, committed := 0, nextOrder := 0 }

/-- The engine after power-on reset and RESTART (R122, R132, R136, R137, R154, R155), before the sample is taken. -/
def Engine.reset (now : Nat) : Engine :=
  { st := .idle, holds := {}, holdAsked := false, budgetAsked := false, cause := none, holdCount := 0, step := .none,
    stoppedLine := none, rawWaiting := none, run := none, inProgress := none, previous := 0, beforePrevious := 0,
    lastShift := none, motorPhase := 0, vc := 0, tc := 0, dotCurrent := 0, lastHeat := 0, lastBursts := 0,
    watchTimer := some (now + Config.watchPeriod) }

/-- The Budget Unit after power-on reset and RESTART (R156, R159, R161). -/
def Budget.reset (tick : Timer) : Budget :=
  { record := none, table := [], own := 0, completed := 0, granted := 0, raise := .none, settleTimer := none,
    restateTimer := none, parkTimer := none, barrierTimer := none, tickTimer := tick }

/-- The own address that a strap reading gives: 0 is used as 1 and 15 as 14 (R190). -/
def strapAddress (straps : Addr) : Addr := if straps = 0 then 1 else if straps = 15 then 14 else straps

/-- The setup record at its defaults (R189). -/
def Setup.default (own : Addr) : Setup :=
  { controller := if own = 1 then 2 else 1, dotOhms := 200, ceiling := 1200, motor := 250, darkness := 3, formLength := 0,
    truncate := false, strip := false, flushSeconds := 4, repeatDelay := 500, repeatRate := 10, click := true,
    flowEnable := true, stopCode := 0x13, goCode := 0x11, lowMark := 12, highMark := 24, loud := false, carrierWait := 30,
    fadeLimit := 400,
    routes := [.controller, .controller, .controller, .controller, .controller, .controller, .controller, .controller,
      .controller, .all],
    routing := .default }

/-- The Line Interface after power-on reset (R172, R175, R178, R181): both counts at 0, the wire taken as high until it is read
(log entry 5). -/
def Line.reset (own : Addr) (fast : Bool) : Line :=
  { addr := own, fast := fast, chars := .hunting, message := .waiting, readTo := 0, wireLow := false, wireSince := 0,
    claimSlot := none, replies := [], notices := [], keysSlot := none, textSlot := none, presentSlot := none, attempt := none,
    retry := false, listenOnly := false }

/-- The Message Unit after power-on reset (R190). -/
def MessageUnit.reset (own : Addr) : MessageUnit :=
  { op := .start, dozePending := false, window := .waitingPresent, windowTimer := none,
    presentTimer := some (own.toNat * Config.presentUnit), setup := .default own, keysTimer := none, keysDue := false,
    textTimer := none, textDue := false }

/-- The pins after power-on reset, with the straps and what PAPER and DOOR read. -/
def Pins.reset (straps : Addr) (rateHigh paper door : Bool) : Pins :=
  { straps := straps, rateHigh := rateHigh, keys := 0, paper := paper, door := door, cupA := false, cupB := false,
    mic := false, strobes := 0, motor := 0, head := 0 }

/-- Every block in its state after power-on reset, before the sample that entry to START takes (R190). -/
def State.powerUp (pending : List Instr) (straps : Addr) (rateHigh : Bool) : State :=
  let own := strapAddress straps
  { pending := pending, now := 0, pool := .reset, router := .reset .default, beeper := .reset, kbd := .reset 0,
    mod := .reset, demod := .reset, call := .reset, asm := .reset 3, eng := .reset 0,
    bud := .reset (some Config.budgetTickPeriod), line := .reset own rateHigh, msg := .reset own,
    pins := .reset straps rateHigh true true }

/-- The machine right after power-on reset (R190): START, with the sample of entry to START taken. The straps and the sense
readings are inputs the spec gives no reset value; the model takes those of its worked cases, address 5 at 62,500 bit/s
(section 11.8) and vc 170, tc 75 (section 7.11), with paper present and the door closed (log entry 5, DESIGN CHOICE, unsafe). -/
def State.reset : State :=
  let s := State.powerUp [] 5 true
  s.setEng { s.eng with vc := 170, tc := 75, dotCurrent := 34 }

end Sys2Proof.Machine
end

