-- ==== Sys2Proof/Machine/Arith.lean ====
section
/-! DEFINITION. Arithmetic of the spec: its roundings (00_scope section 7), counting dots, two-character values, and the clocks
derived from the crystal. -/

namespace Sys2Proof.Machine

/-- Division rounding half up (00_scope section 7). -/
def divRound (a b : Nat) : Nat := (2 * a + b) / (2 * b)

/-- Division rounding up. -/
def divUp (a b : Nat) : Nat := (a + b - 1) / b

/-- The largest multiple of 10 mA not above the value (00_scope section 7). -/
def floor10 (a : Nat) : Nat := a / 10 * 10

/-- The value brought between two bounds. -/
def clampTo (lo hi a : Nat) : Nat := max lo (min hi a)

/-- The on dots among the `n` positions from `lo` (R127). -/
def dotsFrom (d : Dots) (lo : Nat) : Nat → Nat
  | 0 => 0
  | n + 1 => (d.getLsbD lo).toNat + dotsFrom d (lo + 1) n

/-- The `n` positions from `lo` as dots. -/
def span (lo n : Nat) : Dots := BitVec.ofNat 480 ((2 ^ n - 1) * 2 ^ lo)

/-- The low character of a two-character value; values go low character first (R195). -/
def lowByte (n : Nat) : Byte := BitVec.ofNat 8 n

/-- The high character of a two-character value (R195). -/
def highByte (n : Nat) : Byte := BitVec.ofNat 8 (n / 256)

/-- A two-character value, low character first (R195). -/
def wordOf (lo hi : Byte) : Nat := lo.toNat + 256 * hi.toNat

/-- The sum of characters modulo 256 (R174). -/
def byteSum (bytes : List Byte) : Byte := bytes.foldl (· + ·) 0

/-- Events of the 32,000 samples/s tone sample clock up to `t` µs: event k falls at 31.25 × k µs, rounded down (R59, R75). For
the send accumulator the events are counted from power-on reset (log entry 49), and for the loop test from its start. -/
def toneEvents (t : Nat) : Nat := (4 * t + 3) / 125

/-- The µs count of tone sample clock event k (R75). -/
def toneEventTime (k : Nat) : Nat := 125 * k / 4

/-- The baud increment of a rate (R61). -/
def baudIncrement : Rate → Nat
  | .b110 => 29528
  | .b150 => 40265
  | .b300 => 80531

/-- The increment of the tone that the modulator sends for mark in a mode (R58). -/
def markIncrement : Mode → Nat
  | .originate => 2601
  | .answer => 4557

/-- The increment of the tone that the modulator sends for space in a mode (R58). -/
def spaceIncrement : Mode → Nat
  | .originate => 2191
  | .answer => 4147

/-- The increment for one bit, mark or space, in a mode (R58). -/
def bitIncrement (m : Mode) (mark : Bool) : Nat := if mark then markIncrement m else spaceIncrement m

/-- The length of a party-line bit in µs (R172): the crystal divided by 128 or by 512. -/
def bitTime (fast : Bool) : Nat := if fast then 16 else 64

end Sys2Proof.Machine
end

