-- ==== Sys2Proof/Machine/Ops.lean ====
section
/-! DEFINITION. The shared operations that every block uses: the passing of time, asking for a notice, asking for a sound, and
what the output pins show. -/

namespace Sys2Proof.Machine

/-! ## Time -/

/-- The modulator sounds or would sound: its send accumulator steps (R59, R74). -/
def Modulator.steps (m : Modulator) : Bool := decide (m.st ≠ .silent)

/-- The sampler runs only in ONLINE and in LOOP (R63). -/
def samplerRuns (st : CallState) : Bool := st = .online || st = .loop

/-- The rate the baud accumulators run at: 300 baud in LOOP (R75), else that of the call parameters, which are kept after the
call (R80); without parameters they stand. -/
def State.baudStep (s : State) : Nat :=
  if s.call.st = .loop then baudIncrement .b300
  else match s.call.params with
    | some p => baudIncrement p.fmt.rate
    | none => 0

/-- One tone sample clock event of the loop test (R75): the test accumulator steps, and a crossing of half-scale or a wrap is
noted at the event's µs count. -/
def LoopTest.stepOnce (increment : Nat) (l : LoopTest) : LoopTest :=
  let sum := l.phase.toNat + increment
  let crosses := if l.phase.toNat < 32768 then 32768 ≤ sum else 65536 ≤ sum
  let k := l.samples + 1
  { l with
    samples := k
    phase := BitVec.ofNat 16 sum
    due := if crosses then l.due ++ [l.started + toneEventTime k] else l.due }

/-- That many tone sample clock events of the loop test. -/
def LoopTest.steps (increment : Nat) : Nat → LoopTest → LoopTest
  | 0, l => l
  | n + 1, l => LoopTest.steps increment n (l.stepOnce increment)

/-- The modulator after `dt` µs in which `n` tone sample clock events fell, at the baud increment `inc` (R59, R61, R75). -/
def Modulator.advance (m : Modulator) (inc dt n now : Nat) : Modulator :=
  let total := m.baudAcc.toNat + dt * inc
  { m with
    phase := if m.steps then m.phase + BitVec.ofNat 16 (n * m.increment) else m.phase
    baudAcc := BitVec.ofNat 24 total
    bitSamples := if m.frame.isSome || m.test.isSome then m.bitSamples + total / 2 ^ 24 else m.bitSamples
    test := m.test.map fun l => LoopTest.steps m.increment (toneEvents (now - l.started) - l.samples) l }

/-- The sampler after `dt` µs at the baud increment `inc` (R61). -/
def Sampler.advance (a : Sampler) (inc dt : Nat) (running : Bool) : Sampler :=
  let total := a.baudAcc.toNat + dt * inc
  { a with
    baudAcc := BitVec.ofNat 24 total
    due := if running then a.due + total / 2 ^ 24 else a.due }

/-- Time passes up to `t`; a `t` that does not lie ahead leaves everything as it is. The baud accumulators step at each µs
(R61), the send accumulator and the test accumulator at each tone sample clock event (R59, R75). -/
def State.advanceTo (s : State) (t : Nat) : State :=
  if t ≤ s.now then s
  else
    let dt := t - s.now
    let n := toneEvents t - toneEvents s.now
    let inc := s.baudStep
    ((s.setMod (s.mod.advance inc dt n t)).setDemod
      { s.demod with sampler := s.demod.sampler.advance inc dt (samplerRuns s.call.st) }).setNow t

/-! ## Notices -/

/-- The kind of a notice. -/
def Notice.kind : Notice → NoticeKind
  | .carrierUp _ => .carrierUp
  | .carrierDown _ _ => .carrierDown
  | .handset _ _ => .handset
  | .printHeld _ _ _ => .printHeld
  | .printResumed _ _ => .printResumed
  | .flow _ => .flow
  | .breakReceived _ => .breakReceived
  | .loopResult _ _ _ => .loopResult
  | .keyLost => .keyLost
  | .budget _ _ _ => .budget

/-- The notice code of a kind (R195). -/
def NoticeKind.code : NoticeKind → Nat
  | .carrierUp => 1
  | .carrierDown => 2
  | .handset => 3
  | .printHeld => 4
  | .printResumed => 5
  | .flow => 6
  | .breakReceived => 7
  | .loopResult => 8
  | .keyLost => 9
  | .budget => 10

/-- The default routing of a kind (R187). -/
def NoticeKind.defaultRoute : NoticeKind → NoticeRoute
  | .budget => .all
  | _ => .controller

/-- The routing of a kind in the setup record (R187, R189). -/
def Setup.route (r : Setup) (k : NoticeKind) : NoticeRoute := (r.routes[k.code - 1]?).getD k.defaultRoute

/-- The destination that a routing gives, none for OFF (R187). -/
def Setup.routeDest (r : Setup) (k : NoticeKind) : Option Addr :=
  match r.route k with
  | .off => none
  | .controller => some r.controller
  | .all => some 0

/-- A notice's detail once a newer one of its kind is asked for: for BREAK-RECEIVED the count rises by one, up to 255 (R187). -/
def Notice.renewed (old new : Notice) : Notice :=
  match old, new with
  | .breakReceived k, .breakReceived _ => .breakReceived (min 255 (k + 1))
  | _, _ => new

/-- A BREAK-RECEIVED whose count stands at 255 does not rise (R187). -/
def Notice.atMost : Notice → Bool
  | .breakReceived k => decide (255 ≤ k)
  | _ => false

/-- A queued notice takes a newer one's detail and destination and keeps its place. While an attempt carries the entry the change
makes it a fresh message; a BREAK-RECEIVED is kept behind the attempt only where its count has risen since (R180, R187). -/
def NoticeEntry.renew (e : NoticeEntry) (n : Notice) (dest : Addr) (carried : Bool) : NoticeEntry :=
  let grows := carried && !e.notice.atMost
  { e with notice := e.notice.renewed n, dest := dest, changed := e.changed || grows,
           since := if grows then min 255 (e.since + 1) else e.since }

/-- The queue with a notice posted: it replaces the queued notice of its kind, or joins at the tail (R187). The head entry is
the one an attempt of the notice slot carries. -/
def postNotice (q : List NoticeEntry) (n : Notice) (dest : Addr) (carryingHead : Bool) : List NoticeEntry :=
  match q with
  | [] => [{ notice := n, dest := dest, count := 0, changed := false, since := 0 }]
  | e :: rest =>
    if e.notice.kind = n.kind then e.renew n dest carryingHead :: rest
    else e :: postNotice rest n dest false

/-- An attempt serves that slot now. -/
def Line.carrying (l : Line) (slot : Slot) : Bool :=
  match l.attempt with
  | some a => a.slot = slot
  | none => false

/-- A block asks for a notice: not queued while the part is listen-only or when its kind is routed OFF (R187). -/
def State.askNotice (s : State) (n : Notice) : State :=
  if s.line.listenOnly then s
  else match s.msg.setup.routeDest n.kind with
    | none => s
    | some dest =>
      s.setLine { s.line with notices := postNotice s.line.notices n dest (s.line.carrying .notice) }

/-! ## Sounds -/

/-- How long a sound lasts (R34). -/
def Sound.length : Sound → Nat
  | .none => 0
  | .click => Config.clickTime
  | .bell => Config.bellTime
  | .error => 3 * Config.errorToneTime

/-- A request for a click is dropped while a bell or an error beep is current; every other request starts its sound anew
(R35). -/
def soundTaken (current asked : Sound) : Bool :=
  match current, asked with
  | .bell, .click => false
  | .error, .click => false
  | _, .none => false
  | _, _ => true

/-- A block asks the Beeper for a sound (R34, R35). -/
def State.askSound (s : State) (asked : Sound) : State :=
  if soundTaken s.beeper.sound asked then
    s.setBeeper { sound := asked, started := s.now, ends := some (s.now + asked.length) }
  else s

/-! ## Output pins worked out from the blocks -/

/-- The tone that BEEP makes, in Hz, none while it is held low; an error beep is a tone, a silence and a tone (R34). -/
def State.beepOut (s : State) : Option Nat :=
  match s.beeper.sound with
  | .none => none
  | .click => some 2000
  | .bell => some 1600
  | .error =>
    let at_ := s.now - s.beeper.started
    if Config.errorToneTime ≤ at_ && at_ < 2 * Config.errorToneTime then none else some 500

/-- LEVEL: high for LOUD at all times (R60). -/
def State.levelOut (s : State) : Bool := s.msg.setup.loud

/-- TONE: the step, 0 to 63, of the 64-step sine, none at mid level: silent, muted or in LOOP (R59, R60, R74, R75). -/
def State.toneOut (s : State) : Option Nat :=
  if s.mod.st = .silent || s.call.muted then none else some (s.mod.phase.toNat / 1024)

end Sys2Proof.Machine
end

