-- ==== Sys2Proof/Machine/PoolOps.lean ====
section
/-! DEFINITION. The Text Pool's operations (chapter 1): storing a cell or a body, taking a cell, discarding a chain. -/

namespace Sys2Proof.Machine

/-- The blocks of a chain, head first (R4). -/
def Pool.chain (p : Pool) : Chain → List Block
  | .txq => p.txq
  | .prq => p.prq
  | .fwq => p.fwq

/-- The pool with a chain's blocks replaced. -/
def Pool.setChain (p : Pool) (c : Chain) (bs : List Block) : Pool :=
  match c with
  | .txq => { p with txq := bs }
  | .prq => { p with prq := bs }
  | .fwq => { p with fwq := bs }

/-- The pool with its free stack replaced. -/
def Pool.setFree (p : Pool) (ids : List Nat) : Pool := { p with free := ids }

/-- The cap of a chain in blocks (R5). -/
def Chain.cap : Chain → Nat
  | .txq => Config.txqCap
  | .prq => Config.prqCap
  | .fwq => Config.fwqCap

/-- The lost-pending flag of a chain; TXQ has none (R13). -/
def Pool.lost (p : Pool) : Chain → Bool
  | .txq => false
  | .prq => p.prqLost
  | .fwq => p.fwqLost

/-- The pool with a chain's lost-pending flag set to a value; TXQ has none (R13). -/
def Pool.setLost (p : Pool) (c : Chain) (v : Bool) : Pool :=
  match c with
  | .txq => p
  | .prq => { p with prqLost := v }
  | .fwq => { p with fwqLost := v }

/-- The link of a block (R2): the next block of its chain, or, on the free stack, the block below it. -/
def Pool.link (p : Pool) (id : Nat) : Option Nat :=
  let after (ids : List Nat) : Option Nat := (ids.dropWhile (· ≠ id))[1]?
  (after p.free).or ((after (p.txq.map Block.id)).or ((after (p.prq.map Block.id)).or (after (p.fwq.map Block.id))))

/-- The unconsumed cells of a chain, in order (R4). -/
def chainCells (bs : List Block) : List Cell := bs.flatMap fun b => b.cells.drop b.consumed

/-- The room in a chain's tail: 16 less its fill count, or 0 if the chain is empty (R7). -/
def tailRoom (bs : List Block) : Nat :=
  match bs.getLast? with
  | none => 0
  | some b => Config.blockCells - b.cells.length

/-- The blocks a body of `n` cells needs beyond the room of the tail (R7). -/
def blocksNeeded (n room : Nat) : Nat :=
  if n ≤ room then 0 else divUp (n - room) Config.blockCells

/-- The pool with one cell written into a chain as it is given, or none where the chain cannot store it (R6). -/
def Pool.putCell (p : Pool) (c : Chain) (cell : Cell) : Option Pool :=
  let bs := p.chain c
  if 0 < tailRoom bs then
    match bs.getLast? with
    | some b => some (p.setChain c (bs.dropLast ++ [{ b with cells := b.cells ++ [cell] }]))
    | none => none
  else if bs.length < c.cap then
    match p.free with
    | id :: rest => some ((p.setFree rest).setChain c (bs ++ [{ id := id, cells := [cell], consumed := 0 }]))
    | [] => none
  else none

/-- One cell stored with LOST-BEFORE added and the flag cleared while the chain's lost-pending flag is set (R6, R14). -/
def Pool.store (p : Pool) (c : Chain) (cell : Cell) : Option Pool :=
  match p.putCell c { cell with lostBefore := cell.lostBefore || p.lost c } with
  | some p' => some (p'.setLost c false)
  | none => none

/-- A body of that many cells can be stored: within the cap and within the free count (R7). -/
def Pool.bodyFits (p : Pool) (c : Chain) (n : Nat) : Bool :=
  let need := blocksNeeded n (tailRoom (p.chain c))
  decide ((p.chain c).length + need ≤ c.cap) && decide (need ≤ p.free.length)

/-- The codes of a body stored one after another; the first takes the lost-pending flag (R7, R14). -/
def Pool.putBody (p : Pool) (c : Chain) : List Byte → Pool
  | [] => p
  | code :: rest =>
    match p.store c { code := code } with
    | some p' => p'.putBody c rest
    | none => p

/-- A body stored whole, or none (R7). -/
def Pool.storeBody (p : Pool) (c : Chain) (codes : List Byte) : Option Pool :=
  if p.bodyFits c codes.length then some (p.putBody c codes) else none

/-- The head cell of a chain taken; the block it empties goes back on top of the free stack (R9). -/
def Pool.take (p : Pool) (c : Chain) : Option (Cell × Pool) :=
  match p.chain c with
  | [] => none
  | b :: rest =>
    match b.cells[b.consumed]? with
    | none => none
    | some cell =>
      if b.consumed + 1 = b.cells.length then
        some (cell, (p.setFree (b.id :: p.free)).setChain c rest)
      else some (cell, p.setChain c ({ b with consumed := b.consumed + 1 } :: rest))

/-- A chain discarded: its blocks are pushed on the free stack from head to tail, its lost-pending flag is cleared, and for FWQ
the in-message count becomes 0 (R11). -/
def Pool.discard (p : Pool) (c : Chain) : Pool :=
  let p' := ((p.setFree ((p.chain c).reverse.map Block.id ++ p.free)).setChain c []).setLost c false
  match c with
  | .fwq => { p' with fwqInMessage := 0 }
  | _ => p'

/-- The unsent cells of FWQ: those not copied into a built message (R183). -/
def Pool.unsentText (p : Pool) : Nat := (chainCells p.fwq).length - p.fwqInMessage

end Sys2Proof.Machine
end

