-- ==== Sys2Proof/Machine/Flags.lean ====
section
/-! DEFINITION. Every flag and condition the spec computes: pressure and release, flow codes, parity and the sampler's majority,
half-period classes, the live hold tests, the figures and inputs of the Budget Unit, modifiers. -/

namespace Sys2Proof.Machine

/-! ## Router -/

/-- The call is ONLINE or FADING. -/
def CallState.carrying (st : CallState) : Bool := st = .online || st = .fading

/-- PRQ is a receive destination (R21, R29). -/
def State.copiesToPrinter (s : State) : Bool := decide (s.router.routing.copy ≠ .controller)

/-- FWQ is a receive destination: receive copy names it and the part is not listen-only (R21, R29). -/
def State.copiesToController (s : State) : Bool := decide (s.router.routing.copy ≠ .print) && !s.line.listenOnly

/-- Pressure (R29). -/
def State.pressure (s : State) : Bool :=
  decide (s.pool.free.length ≤ s.msg.setup.lowMark)
    || (decide (54 ≤ s.pool.prq.length) && s.copiesToPrinter)
    || (decide (22 ≤ s.pool.fwq.length) && s.copiesToController)

/-- Release (R29). -/
def State.release (s : State) : Bool :=
  decide (s.msg.setup.highMark ≤ s.pool.free.length) && decide (s.pool.prq.length ≤ 48) && decide (s.pool.fwq.length ≤ 16)

/-- A format has 7 data bits (R62). -/
def DataFormat.isSeven : DataFormat → Bool
  | .eight => false
  | _ => true

/-- The format of the call has 7 data bits. -/
def State.sevenBits (s : State) : Bool :=
  match s.call.params with
  | some p => p.fmt.data.isSeven
  | none => false

/-- The code that a received character is compared with (R22): the low seven bits of a setup code in a 7-data-bit format. -/
def State.flowByte (s : State) (code : Byte) : Byte := if s.sevenBits then code &&& 0x7F else code

/-- The flow code that a received item is, if it is one (R22); equal setup codes read as the stop code, and so do codes that agree
only in the low seven bits compared (log entry 48). -/
def State.flowCodeOf (s : State) (cell : Cell) : Option FlowCode :=
  if s.msg.setup.flowEnable && !cell.parity && !cell.framing && !cell.lineBreak then
    if cell.code = s.flowByte s.msg.setup.stopCode then some .stop
    else if cell.code = s.flowByte s.msg.setup.goCode then some .go
    else none
  else none

/-- The code that is pending: the state asks for it and the modulator has not begun it (R30). -/
def Router.pendingCode (r : Router) : Option FlowCode :=
  match r.flow, r.inFlight with
  | .pendingStop, none => some .stop
  | .pendingStop, some .go => some .stop
  | .pendingGo, none => some .go
  | _, _ => none

/-! ## Coupler -/

/-- The number of 1 bits among the low seven bits. -/
def onesIn7 (code : Byte) : Nat := (List.range 7).countP fun i => code.getLsbD i

/-- The parity bit that a format requires for seven data bits, none where the frame has no parity bit (R62). -/
def DataFormat.parityBit (d : DataFormat) (code : Byte) : Option Bool :=
  match d with
  | .seven => none
  | .eight => none
  | .sevenEven => some (decide (onesIn7 code % 2 = 1))
  | .sevenOdd => some (decide (onesIn7 code % 2 = 0))
  | .sevenMark => some true
  | .sevenSpace => some false

/-- The data bits of a format (R62). -/
def DataFormat.bits (d : DataFormat) : Nat := if d.isSeven then 7 else 8

/-- The frame has a parity bit (R62). -/
def DataFormat.hasParity (d : DataFormat) : Bool :=
  match d with
  | .seven => false
  | .eight => false
  | _ => true

/-- The stop bits of a format (R62). -/
def StopBits.number : StopBits → Nat
  | .one => 1
  | .two => 2

/-- The frame bits of a format (R62). -/
def Format.frameLength (f : Format) : Nat := 1 + f.data.bits + f.data.hasParity.toNat + f.stop.number

/-- The break threshold: two frames of samples (R62, R69). -/
def Format.breakThreshold (f : Format) : Nat := 2 * 16 * f.frameLength

/-- The majority of a trio of samples (R66, R67). -/
def majority (a b c : Bool) : Bool := (a && b) || (a && c) || (b && c)

/-- A trio that is not unanimous (R67). -/
def mixed (a b c : Bool) : Bool := !(a == b && b == c)

/-- The class of a half-period in a band, true for mark and none when it is invalid (R64). -/
def halfPeriodClass (high : Bool) (us : Nat) : Option Bool :=
  if high then
    if 200 ≤ us && us ≤ 280 then some (decide (us ≤ 236)) else none
  else
    if 360 ≤ us && us ≤ 520 then some (decide (us ≤ 430)) else none

/-- The band heard is the high one: originate mode, outside LOOP (R63). -/
def State.hearsHigh (s : State) : Bool :=
  decide (s.call.st ≠ .loop) && (match s.call.params with
    | some p => p.mode = .originate
    | none => false)

/-- The demodulator listens (R63). -/
def CallState.listens : CallState → Bool
  | .idle => false
  | .ready => false
  | .dropping => false
  | _ => true

/-- Enough valid half-periods for a present window (R65). -/
def windowPresent (high : Bool) (count : Nat) : Bool := if high then 28 ≤ count else 15 ≤ count

/-! ## Print Engine -/

/-- The supply in mV (R118). -/
def supplyMv (vc : Byte) : Nat := vc.toNat * 40

/-- LOW-VOLTAGE after a sample, with its hysteresis (R119). -/
def lowVoltageAfter (before : Bool) (vc : Byte) : Bool :=
  if supplyMv vc < 5600 then true else if 5800 ≤ supplyMv vc then false else before

/-- HEAD-HOT after a sample, with its hysteresis; the temperature is tc − 40 °C (R118, R119). -/
def headHotAfter (before : Bool) (tc : Byte) : Bool :=
  if 60 + 40 < tc.toNat then true else if tc.toNat ≤ 55 + 40 then false else before

/-- The dot current in mA: the clamped supply over the dot resistance, rounded up (R119, R125). -/
def dotCurrentOf (vc : Byte) (ohms : Nat) : Nat := divUp (min 9000 (supplyMv vc)) ohms

/-- Some condition is present (R144). -/
def HoldSet.any (h : HoldSet) : Bool :=
  h.stopped || h.headHot || h.lowVoltage || h.batteryCritical || h.doorOpen || h.paperOut || h.budget || h.controllerHold

/-- A condition is in the set (R144). -/
def HoldSet.has (h : HoldSet) : Hold → Bool
  | .stopped => h.stopped
  | .headHot => h.headHot
  | .lowVoltage => h.lowVoltage
  | .batteryCritical => h.batteryCritical
  | .doorOpen => h.doorOpen
  | .paperOut => h.paperOut
  | .budget => h.budget
  | .controllerHold => h.controllerHold

/-- The highest-priority condition present, none for the empty set (R144, R147). -/
def HoldSet.highest (h : HoldSet) : Option Hold :=
  [Hold.stopped, .headHot, .lowVoltage, .batteryCritical, .doorOpen, .paperOut, .budget, .controllerHold].find? h.has

/-- The set without CONTROLLER-HOLD. -/
def HoldSet.withoutController (h : HoldSet) : HoldSet := { h with controllerHold := false }

/-- CONTROLLER-HOLD is the only condition present (R151, R152). -/
def HoldSet.controllerAlone (h : HoldSet) : Bool := h.controllerHold && !h.withoutController.any

/-! ## Budget Unit -/

/-- The record is fresh (R156). -/
def Allowance.fresh (r : Allowance) : Bool := r.age < Config.recordStaleAge

/-- The record is fresh; an empty one counts as stale (R156). -/
def Budget.recordFresh (b : Budget) : Bool :=
  match b.record with
  | some r => r.fresh
  | none => false

/-- The allowance in use, A (R157). -/
def Budget.allowance (b : Budget) : Nat :=
  match b.record with
  | some r => if r.fresh then r.mA else Config.staleAllowance
  | none => Config.staleAllowance

/-- The battery state in use (R157). -/
def Budget.battery (b : Budget) : BatteryInUse :=
  match b.record with
  | some r =>
    if r.fresh then
      match r.battery with
      | .normal => .normal
      | .low => .low
      | .critical => .critical
    else .unknown
  | none => .unknown

/-- The sum of the table (R158). -/
def Budget.tableSum (b : Budget) : Nat := (b.table.map Neighbour.mA).sum

/-- The Call Controller counts the carrier load (R96). -/
def Call.loadCounted (c : Call) : Bool :=
  match c.st with
  | .ansTone => true
  | .online => !c.muted
  | .fading => !c.muted
  | .loop => true
  | _ => false

/-- The own fixed load F (R160). -/
def State.fixedLoad (s : State) : Nat :=
  Config.coreLoad + Config.beeperLoad + (if s.call.loadCounted then Config.carrierLoad else 0)

/-- Available (R160); subtraction of naturals gives 0 where the figure would be below 0. -/
def State.available (s : State) : Nat := s.bud.allowance - s.bud.tableSum - s.fixedLoad

/-- Ceiling′ (R160): LOW and CRITICAL halve the print ceiling, rounded down to 10 mA. -/
def State.ceiling (s : State) : Nat :=
  match s.bud.battery with
  | .low => floor10 (s.msg.setup.ceiling / 2)
  | .critical => floor10 (s.msg.setup.ceiling / 2)
  | _ => s.msg.setup.ceiling

/-- Desired (R160). -/
def State.desired (s : State) : Nat := floor10 (min s.ceiling s.available)

/-! ## Keyboard -/

/-- The code a record carries on the wire: FFh for none (R195). -/
def codeOrNone : Option Byte → Byte
  | some c => c
  | none => 0xFF

end Sys2Proof.Machine
end

