-- ==== Sys2Proof/Machine/AssemblerOps.lean ====
section
/-! DEFINITION. The Line Assembler's images (chapter 6): opening an image, placing a glyph, a completed text line, freeing an
image, and the rendering of a dot line. What an image's closing tells the engine stands in LineOps.lean. -/

namespace Sys2Proof.Machine

/-- An image by name. -/
def Assembler.image (a : Assembler) : ImageId → Image
  | .one => a.image1
  | .two => a.image2

/-- The assembler with an image replaced. -/
def Assembler.setImage (a : Assembler) (id : ImageId) (i : Image) : Assembler :=
  match id with
  | .one => { a with image1 := i }
  | .two => { a with image2 := i }

/-- The columns of an image (R99). -/
def columnsOf (wide : Bool) : Nat := if wide then 40 else 80

/-- A cell that holds a glyph (R99). -/
def ImageCell.occupied : ImageCell → Bool
  | .empty => false
  | _ => true

/-- An image is empty when none of its cells holds a glyph (R99). -/
def Image.isEmpty (i : Image) : Bool := !i.cells.any ImageCell.occupied

/-- The OPEN image (R99: at most one). -/
def Assembler.openId (a : Assembler) : Option ImageId :=
  if a.image1.st = .opened then some .one else if a.image2.st = .opened then some .two else none

/-- The image that the next opening takes: image 1 if both are FREE (R102). -/
def Assembler.freeId (a : Assembler) : Option ImageId :=
  if a.image1.st = .free then some .one else if a.image2.st = .free then some .two else none

/-- The WAITING image closed first (R115). -/
def Assembler.oldestWaiting (a : Assembler) : Option ImageId :=
  if a.image1.st = .waiting then
    if a.image2.st = .waiting && a.image2.order < a.image1.order then some .two else some .one
  else if a.image2.st = .waiting then some .two else none

/-- The space glyph. -/
def Glyph.isSpace (g : Glyph) : Bool := decide (g = .printable 0x20)

/-- A cell after a glyph is placed on it (R104). -/
def ImageCell.strike (c : ImageCell) (g : Glyph) : ImageCell :=
  if g.isSpace then c
  else match c with
    | .empty => .one g
    | .one p => .two p g
    | .two p _ => .two p g

/-- A glyph placed at the current column of an image, within its width: the column rises by one and the CR flag is cleared
(R104). -/
def Assembler.placeAt (a : Assembler) (id : ImageId) (g : Glyph) : Assembler :=
  let i := a.image id
  { a.setImage id { i with cells := i.cells.modify a.column (·.strike g) } with
    column := a.column + 1
    crFlag := false }

/-- The carried placements made in order at the opening of an image (R102); a placement that the column puts beyond the width
stays carried (no run reaches this: a wrap sets the column to 0 and carries at most two). -/
def Assembler.placeCarried (a : Assembler) (id : ImageId) : List Glyph → Assembler
  | [] => { a with carried := [] }
  | g :: rest =>
    if a.column < columnsOf (a.image id).wide then (a.placeAt id g).placeCarried id rest
    else { a with carried := g :: rest }

/-- The end of the idle-flush timer when it is started now; a flush time of 0 turns it off (R114). -/
def State.flushEnd (s : State) : Timer :=
  if s.msg.setup.flushSeconds = 0 then none else some (s.now + s.msg.setup.flushSeconds * 1000000)

/-- The assembler opens an image when none is OPEN, one is FREE and there is something to place (R102). -/
def State.openImage (s : State) : State :=
  match s.asm.openId, s.asm.freeId with
  | none, some id =>
    if s.pool.prq.isEmpty && s.asm.carried.isEmpty then s
    else
      let img : Image :=
        { st := .opened, wide := s.asm.stagedWide, darkness := s.asm.stagedDarkness,
          cells := List.replicate (columnsOf s.asm.stagedWide) .empty, blanksAfter := 0, order := 0 }
      let a := { s.asm.setImage id img with flushTimer := s.flushEnd }
      s.setAsm (a.placeCarried id a.carried)
  | _, _ => s

/-- A text line is completed on the paper: the committed lines fall and the form position rises (R113). -/
def State.textLineDone (s : State) : State :=
  let l := s.msg.setup.formLength
  let pos := if l = 0 then 0 else if s.asm.formPosition + 1 = l then 0 else s.asm.formPosition + 1
  s.setAsm { s.asm with committed := s.asm.committed - 1, formPosition := pos }

/-- A PRINTING image becomes FREE at the completion of its last text line, and is opened at once if there is something to
place (R116). -/
def State.freeImage (s : State) (id : ImageId) : State := (s.setAsm (s.asm.setImage id .freed)).openImage

/-! ## Rendering -/

/-- The glyphs whose pattern stands in rows 2 to 8: g, j, p, q and y (R117). -/
def hasDescender (code : Byte) : Bool := code = 0x67 || code = 0x6A || code = 0x70 || code = 0x71 || code = 0x79

/-- A dot of the glyph cell of 6 columns by 10 rows (R117); the patterns of the printable glyphs, but for the space and the
underscore, are free values of Config. -/
def Glyph.dot (g : Glyph) (row col : Nat) : Bool :=
  if 5 ≤ col then false
  else match g with
    | .error => row ≤ 6 && (row + col) % 2 = 0
    | .lost => col = 2 && row ≤ 6 && row ≠ 3
    | .lineBreak => row ≤ 8
    | .printable code =>
      if code = 0x20 then false
      else if code = 0x5F then row = 6
      else if hasDescender code then 2 ≤ row && row ≤ 8 && Config.glyphRom code.toNat (row - 2) col
      else row ≤ 6 && Config.glyphRom code.toNat row col

/-- A dot of a cell: on where its primary or its secondary glyph has a dot on (R115). -/
def ImageCell.dot (c : ImageCell) (row col : Nat) : Bool :=
  match c with
  | .empty => false
  | .one p => p.dot row col
  | .two p q => p.dot row col || q.dot row col

/-- One row of a cell's six columns at the head positions of its column; in WIDE width each dot drives two positions (R115). -/
def ImageCell.rowDots (c : ImageCell) (wide : Bool) (column row : Nat) : Dots :=
  (List.range 6).foldl (fun acc k =>
    if c.dot row k then
      acc ||| (if wide then span (12 * column + 2 * k) 2 else span (6 * column + k) 1)
    else acc) 0

/-- The cells from a column on, rendered. -/
def renderFrom (wide : Bool) (row : Nat) : Nat → List ImageCell → Dots
  | _, [] => 0
  | column, c :: rest => c.rowDots wide column row ||| renderFrom wide row (column + 1) rest

/-- Dot line `row` of an image's own text line (R115). -/
def Image.render (i : Image) (row : Nat) : Dots := renderFrom i.wide row 0 i.cells

end Sys2Proof.Machine
end

