-- ==== Sys2Proof/Machine/RouterOps.lean ====
section
/-! DEFINITION. Outbound flow control (section 2.5) and the pool's operations as the Router sees them: every pool change is
followed at once by an evaluation (R16, R29). -/

namespace Sys2Proof.Machine

/-- The flow state after an evaluation: the columns Pressure and Release of R30. -/
def flowAfter (f : FlowState) (inFlight : Option FlowCode) (pressure release : Bool) : FlowState :=
  match f, inFlight with
  | .clear, _ => if pressure then .pendingStop else .clear
  | .pendingStop, none => if release then .clear else .pendingStop
  | .pendingStop, some _ => .pendingStop
  | .stopped, _ => if release then .pendingGo else .stopped
  | .pendingGo, none => if pressure then .stopped else .pendingGo
  | .pendingGo, some _ => if pressure then .pendingStop else .pendingGo

/-- The Router evaluates its outbound flow state, while the call is ONLINE or FADING and flow control is enabled (R29). -/
def State.evaluateFlow (s : State) : State :=
  if s.call.st.carrying && s.msg.setup.flowEnable then
    s.setRouter { s.router with flow := flowAfter s.router.flow s.router.inFlight s.pressure s.release }
  else s

/-- The pool replaced, and the change of the free count, if there is one, reported to the Router (R16). -/
def State.changePool (s : State) (p : Pool) : State :=
  let s' := s.setPool p
  if p.free.length = s.pool.free.length then s' else s'.evaluateFlow

/-- One cell stored, or none where the chain cannot store it (R6). -/
def State.storeCell (s : State) (c : Chain) (cell : Cell) : Option State :=
  (s.pool.store c cell).map s.changePool

/-- The head cell of a chain taken, none where the chain is empty (R9). -/
def State.takeCell (s : State) (c : Chain) : Option (Cell × State) :=
  (s.pool.take c).map fun r => (r.1, s.changePool r.2)

/-- A chain discarded (R11). -/
def State.discardChain (s : State) (c : Chain) : State := s.changePool (s.pool.discard c)

/-- A loss recorded for a chain (R13). -/
def State.markLost (s : State) (c : Chain) : State := s.setPool (s.pool.setLost c true)

/-- That many cells taken from the head of FWQ, each by R9 (R10). -/
def State.takeText (s : State) : Nat → State
  | 0 => s
  | n + 1 =>
    match s.takeCell .fwq with
    | some (_, s') => s'.takeText n
    | none => s

/-- The flow event that reports a code sent (R187). -/
def FlowCode.sentEvent : FlowCode → FlowEvent
  | .stop => .stopSent
  | .go => .goSent

/-- The flow event that reports a code received (R187). -/
def FlowCode.receivedEvent : FlowCode → FlowEvent
  | .stop => .stopReceived
  | .go => .goReceived

/-- The flow state after a code completes: the completion columns of R30. -/
def flowCompleted (f : FlowState) (c : FlowCode) : FlowState :=
  match f, c with
  | .pendingStop, .stop => .stopped
  | .pendingGo, .go => .clear
  | _, _ => f

/-- The modulator reports a code's last stop bit sent: the completion columns of R30, the FLOW notice, and an evaluation (R29
evaluates at each completion; log entry 13). -/
def State.flowComplete (s : State) (c : FlowCode) : State :=
  ((s.setRouter { s.router with flow := flowCompleted s.router.flow c, inFlight := none }).askNotice
    (.flow c.sentEvent)).evaluateFlow

end Sys2Proof.Machine
end

