-- ==== Sys2Proof/Machine/SignalOps.lean ====
section
/-! DEFINITION. The Coupler Modulator and the Coupler Demodulator (chapter 4): frames, character boundaries, breaks, the
half-period classifier, the receive sampler and the loop test. -/

namespace Sys2Proof.Machine

/-! ## Sending -/

/-- The bits of a frame, true for mark: start, data least significant first, parity, stop (R62). -/
def frameBits (f : Format) (code : Byte) : List Bool :=
  [false] ++ (List.range f.data.bits).map (fun i => code.getLsbD i)
    ++ (match f.data.parityBit code with
        | some p => [p]
        | none => [])
    ++ List.replicate f.stop.number true

/-- The mode of the call, originate where there are no parameters. -/
def State.mode (s : State) : Mode :=
  match s.call.params with
  | some p => p.mode
  | none => .originate

/-- The modulator sends steady mark with nothing to send (R72). -/
def State.toCarrier (s : State) : State :=
  s.setMod { s.mod with st := .carrier, frame := none, increment := markIncrement s.mode }

/-- The modulator begins a frame with its start bit: from CARRIER the baud accumulator is set to 0, after another frame it runs
on (R72). -/
def State.beginFrame (s : State) (fmt : Format) (code : Byte) (kind : FrameKind) (fromCarrier : Bool) : State :=
  s.setMod { s.mod with
    st := .character
    frame := some { code := code, kind := kind, bits := frameBits fmt code, bit := 0 }
    increment := spaceIncrement s.mode
    baudAcc := if fromCarrier then 0 else s.mod.baudAcc
    bitSamples := if fromCarrier then 0 else s.mod.bitSamples }

/-- The code of a flow code in the setup record (R29). -/
def Setup.flowByte (r : Setup) : FlowCode → Byte
  | .stop => r.stopCode
  | .go => r.goCode

/-- What the modulator begins at a character boundary (R72): a pending flow code, else the head of TXQ unless the remote-stopped
flag is set, else steady mark; nothing is begun outside ONLINE, while muted, or while a break is waiting or being sent. -/
def State.chooseNext (s : State) (fromCarrier : Bool) : State :=
  match s.call.params with
  | none => s.toCarrier
  | some p =>
    if s.call.st = .online && !s.call.muted && !s.call.breakInProgress then
      match s.router.pendingCode with
      | some c =>
        (s.setRouter { s.router with inFlight := some c }).beginFrame p.fmt (s.msg.setup.flowByte c) (.flow c) fromCarrier
      | none =>
        if s.router.remoteStopped then s.toCarrier
        else match s.takeCell .txq with
          | some (cell, s') => s'.beginFrame p.fmt cell.code .cell fromCarrier
          | none => s.toCarrier
    else s.toCarrier

/-- Something to send arrives: a character boundary if the modulator is in CARRIER (R72). -/
def State.arrival (s : State) : State := if s.mod.st = .carrier then s.chooseNext true else s

/-- The break begins: the space tone for 250 ms (R73). -/
def State.startBreak (s : State) : State :=
  s.setMod { s.mod with st := .breakSpace, frame := none, increment := spaceIncrement s.mode,
                        breakTimer := some (s.now + Config.breakSpaceTime) }

/-- A break is taken (R73, R91): it begins at once from CARRIER and after the frame in progress from CHARACTER. -/
def State.takeBreak (s : State) : State :=
  let s' := s.setCall { s.call with breakInProgress := true }
  if s'.mod.st = .carrier then s'.startBreak else s'

/-- The moment at which the bit being sent ends: sixteen sample events after its start (R61). -/
def State.bitEnd (s : State) : Nat :=
  s.now + (if 16 ≤ s.mod.bitSamples then 0 else divUp ((16 - s.mod.bitSamples) * 2 ^ 24 - s.mod.baudAcc.toNat) s.baudStep)

/-- The last stop bit of a frame ends (R72): a flow code completes, then a waiting break begins, or the next choice is made. -/
def State.frameEnd (s : State) (f : Frame) : State :=
  let s1 := match f.kind with
    | .flow c => s.flowComplete c
    | .cell => s
  let s2 := s1.setMod { s1.mod with frame := none, bitSamples := s1.mod.bitSamples - 16 }
  if s2.call.breakInProgress then s2.startBreak else s2.chooseNext false

/-- The modulator at rest: SILENT, the send accumulator at phase 0, any frame or break cut off (R59, R71). -/
def State.silence (s : State) : State :=
  s.setMod { s.mod with st := .silent, phase := 0, increment := 0, frame := none, breakTimer := none, test := none,
                        bitSamples := 0 }

/-- The modulator starts to sound mark from phase 0 (R59, R71). -/
def State.startCarrier (s : State) : State :=
  s.setMod { s.mod with st := .carrier, phase := 0, increment := markIncrement s.mode, frame := none }

/-! ## The loop test -/

/-- Test character `n`: 55h, AAh, then 00h to 1Dh (R76). -/
def testChar (n : Nat) : Byte := if n = 0 then 0x55 else if n = 1 then 0xAA else BitVec.ofNat 8 (n - 2)

/-- The fixed format of the loop test (R75). -/
def testFormat : Format := { rate := .b300, data := .eight, stop := .one }

/-- The level of a bit time of the loop test: 45 of mark, 32 frames of 10 bits, 20 of mark (R76). -/
def testBit (bit : Nat) : Bool :=
  if bit < 45 || 365 ≤ bit then true
  else ((frameBits testFormat (testChar ((bit - 45) / 10)))[(bit - 45) % 10]?).getD true

/-- The test frames completed when a bit time begins (R77). -/
def testFramesSent (bit : Nat) : Nat := min 32 ((bit - 45) / 10)

/-- The mismatches over all 32 places: those compared, and every place not recovered (R77). -/
def LoopTest.mismatches (l : LoopTest) : Nat := l.mismatched + (32 - min 32 l.recovered)

/-- The comparison of a recovered item with the test character of its place (R77); a break is an item without a code. -/
def LoopTest.compare (l : LoopTest) (item : Option (Byte × Bool)) : LoopTest :=
  if 32 ≤ l.recovered then l
  else
    let ok := match item with
      | some (code, framing) => code = testChar l.recovered && !framing
      | none => false
    { l with recovered := l.recovered + 1, mismatched := if ok then l.mismatched else l.mismatched + 1 }

/-! ## Listening -/

/-- The demodulator starts afresh (R63); in LOOP the windows are not judged (R65). -/
def State.demodAfresh (s : State) : State :=
  s.setDemod { s.demod with
    output := true
    lastCrossing := none
    windowCount := 0
    windowTimer := if s.call.st = .loop then none else some (s.now + Config.windowPeriod)
    presentRun := 0
    absentRun := 0 }

/-- The sampler begins in WAIT-MARK with its baud accumulator and break count at 0 (R66). -/
def State.samplerStart (s : State) : State := s.setDemod { s.demod with sampler := Sampler.reset }

/-- The sampler stopped, in WAIT-MARK with nothing gathered; its baud accumulator runs freely on (R61, R70). -/
def Sampler.stopped (a : Sampler) : Sampler := { Sampler.reset with baudAcc := a.baudAcc }

/-- The sampler stops (R63, R70). -/
def State.samplerStop (s : State) : State := s.setDemod { s.demod with sampler := s.demod.sampler.stopped }

/-- A character is in assembly: its start bit confirmed, or held in FRAMING-HELD (R66, R68, R70). -/
def Sampler.assembling (a : Sampler) : Bool := (a.st = .assemble && a.confirmed) || a.st = .framingHeld

/-- The demodulator and its sampler stop; a character in assembly is discarded without a report (R63, R70). -/
def State.demodStop (s : State) : State :=
  s.setDemod { s.demod with windowTimer := none, sampler := s.demod.sampler.stopped }

/-- A crossing handed to the classifier at a µs count (R64): the first one only sets the last crossing time; a valid
half-period sets the output and is counted in the window; a change of output from mark to space is a start edge, which a
sampler in HUNT takes (R66). -/
def State.crossing (s : State) (t : Nat) : State :=
  let d := { s.demod with lastCrossing := some t }
  match s.demod.lastCrossing with
  | none => s.setDemod d
  | some last =>
    match halfPeriodClass s.hearsHigh (t - last) with
    | none => s.setDemod d
    | some mark =>
      let edge := s.demod.output && !mark && samplerRuns s.call.st && s.demod.sampler.st = .hunt
      let a := s.demod.sampler
      let a' := if edge then
          { a with st := .assemble, baudAcc := 0, due := 0, sample := 0, bit := 0, confirmed := false, trio := [],
                   bits := [], noise := false }
        else a
      s.setDemod { d with output := mark, windowCount := s.demod.windowCount + 1, sampler := a' }

/-- What a sample event brings to light. -/
inductive SampleResult where
  | nothing
  | char (cell : Cell)
  | lineBreak
  deriving DecidableEq, Repr

/-- The code of the data bits taken, least significant first (R67). -/
def codeOfBits : List Bool → Nat
  | [] => 0
  | b :: rest => b.toNat + 2 * codeOfBits rest

/-- The character gathered, with its flags (R67, R68). -/
def Sampler.gathered (a : Sampler) (f : Format) (framing : Bool) : Cell :=
  let code := BitVec.ofNat 8 (codeOfBits (a.bits.take f.data.bits))
  let parity := match f.data.parityBit code with
    | some p => a.bits[f.data.bits]? != some p
    | none => false
  { code := code, parity := parity, framing := framing, noise := a.noise }

/-- The sampler in HUNT, with nothing gathered. -/
def Sampler.toHunt (a : Sampler) : Sampler :=
  { a with st := .hunt, sample := 0, bit := 0, confirmed := false, trio := [], bits := [], noise := false }

/-- A break is detected: any held character is gone, and nothing is recovered until mark returns (R69). -/
def Sampler.toSuppress (a : Sampler) : Sampler :=
  { a with st := .breakSuppress, sample := 0, bit := 0, confirmed := false, trio := [], bits := [], noise := false }

/-- Sample 9 of a bit: the majority of the trio takes the bit (R66, R67). -/
def Sampler.takeBit (a : Sampler) (f : Format) (third : Bool) : Sampler × SampleResult :=
  let x := (a.trio[0]?).getD third
  let y := (a.trio[1]?).getD third
  let mark := majority x y third
  let noise := a.noise || mixed x y third
  if a.bit = 0 then
    if mark then (a.toHunt, .nothing)
    else ({ a with confirmed := true, noise := noise, trio := [] }, .nothing)
  else if a.bit ≤ f.data.bits + f.data.hasParity.toNat then
    ({ a with bits := a.bits ++ [mark], noise := noise, trio := [] }, .nothing)
  else
    let a' := { a with noise := noise }
    if mark then (a'.toHunt, .char (a'.gathered f false))
    else ({ a' with st := .framingHeld, trio := [] }, .nothing)

/-- One sample in ASSEMBLE: samples are numbered 1 to 16 within each bit; 7 and 8 are kept, 9 takes the bit (R66). -/
def Sampler.assembleSample (a : Sampler) (f : Format) (mark : Bool) : Sampler × SampleResult :=
  let k := a.sample + 1
  let a1 := if 16 ≤ k then { a with sample := 0, bit := a.bit + 1 } else { a with sample := k }
  if k = 7 || k = 8 then ({ a1 with trio := a1.trio ++ [mark] }, .nothing)
  else if k = 9 then a1.takeBit f mark
  else (a1, .nothing)

/-- One sample event (R66 to R69). Space samples are counted in every state but BREAK-SUPPRESS; a mark sample sets the count
to 0; the threshold makes a break. -/
def Sampler.read (a : Sampler) (f : Format) (mark : Bool) : Sampler × SampleResult :=
  let a0 := { a with breakCount := if mark then 0 else if a.st = .breakSuppress then a.breakCount else a.breakCount + 1 }
  if a.st ≠ .breakSuppress ∧ mark = false ∧ f.breakThreshold ≤ a0.breakCount then (a0.toSuppress, .lineBreak)
  else match a.st with
    | .waitMark => (if mark then a0.toHunt else a0, .nothing)
    | .hunt => (a0, .nothing)
    | .assemble => a0.assembleSample f mark
    | .framingHeld => if mark then (a0.toHunt, .char (a0.gathered f true)) else (a0, .nothing)
    | .breakSuppress => (if mark then a0.toHunt else a0, .nothing)

/-- The format the sampler reads by: that of the call, or the loop test's (R66, R75). -/
def State.sampleFormat (s : State) : Format :=
  if s.call.st = .loop then testFormat
  else match s.call.params with
    | some p => p.fmt
    | none => testFormat

/-- The next sample event: an overflow already counted, or the next one of the baud accumulator (R61). -/
def State.sampleTime (s : State) : Nat :=
  s.now + (if 0 < s.demod.sampler.due then 0 else divUp (2 ^ 24 - s.demod.sampler.baudAcc.toNat) s.baudStep)

/-- The state after the next sample event, and what the sample brings to light (R66). -/
def State.sampleOnce (s : State) : State × SampleResult :=
  let s1 := s.advanceTo s.sampleTime
  let a := { s1.demod.sampler with due := s1.demod.sampler.due - 1 }
  let r := a.read s1.sampleFormat s1.demod.output
  (s1.setDemod { s1.demod with sampler := r.1 }, r.2)

end Sys2Proof.Machine
end

