-- ==== Sys2Proof/Machine/TextOps.lean ====
section
/-! DEFINITION. Where characters go (chapter 2): received items, keyed characters and controller bodies, and the answers that
requests get (R185). -/

namespace Sys2Proof.Machine

/-! ## Answers -/

/-- The reasons of a reply (R185, R195). -/
inductive Reason where
  | none
  | notInState
  | offline
  | noRoom
  | outOfRange
  | unknownKind
  | badLength
  | setupClosed
  | handsetNotSeated
  | callActive
  deriving DecidableEq, Repr

/-- The outcome of a request with its reason (R185). -/
inductive Answer where
  | accepted
  | adjusted
  | busy (r : Reason)
  | refused (r : Reason)
  deriving DecidableEq, Repr

/-! ## Received items -/

/-- A received item offered to one destination: stored, or its loss recorded; no floor applies (R21). -/
def State.offerReceived (s : State) (c : Chain) (cell : Cell) : State :=
  match s.storeCell c cell with
  | some s' => s'
  | none => s.markLost c

/-- A received item routed to the destinations of receive copy, each on its own (R21); the assembler opens an image if there
is now something to place (R102), and a code that has become pending goes out from CARRIER (R31). Where both chains are
destinations, the model stores in PRQ first (log entry 47). -/
def State.routeReceived (s : State) (cell : Cell) : State :=
  let s1 := if s.copiesToPrinter then s.offerReceived .prq cell else s
  let s2 := if s.copiesToController then s1.offerReceived .fwq cell else s1
  s2.openImage.arrival

/-- A received flow code: the remote-stopped flag, the FLOW notice, and, for a go code, text that may now be sent (R22, R33,
R72). -/
def State.flowReceived (s : State) (c : FlowCode) : State :=
  ((s.setRouter { s.router with remoteStopped := decide (c = .stop) }).askNotice (.flow c.receivedEvent)).arrival

/-- The Router takes a received character or break (R21, R22). -/
def State.receiveItem (s : State) (cell : Cell) : State :=
  match s.flowCodeOf cell with
  | some c => s.flowReceived c
  | none => s.routeReceived cell

/-- The demodulator reports a character in assembly discarded: the flag of each receive destination is set (R13, R70). -/
def State.reportDiscard (s : State) : State :=
  let s1 := if s.copiesToPrinter then s.markLost .prq else s
  if s.copiesToController then s1.markLost .fwq else s1

/-! ## Keyed characters -/

/-- The copy of a keyed character on paper in HALF duplex: stored in PRQ or its loss recorded (R24). -/
def State.echoKey (s : State) (code : Byte) : State :=
  if s.router.routing.duplex = .half then
    match s.storeCell .prq { code := code } with
    | some s' => s'
    | none => s.markLost .prq
  else s

/-- A keyed character meant for the telephone line (R23, R24). -/
def State.keyToLine (s : State) (code : Byte) : State :=
  if s.call.st.carrying then
    match s.storeCell .txq { code := code } with
    | some s' => (s'.echoKey code).openImage.arrival
    | none => s.askSound .error
  else s.askSound .error

/-- A keyed character in local mode (R25). -/
def State.keyToPrinter (s : State) (code : Byte) : State :=
  match s.storeCell .prq { code := code } with
  | some s' => s'.openImage.arrival
  | none => s.askSound .error

/-- The Router takes a keyed character (R23 to R25). -/
def State.keyedChar (s : State) (code : Byte) : State :=
  if s.router.localMode then s.keyToPrinter code
  else match s.router.routing.target with
    | .controller => s
    | _ => s.keyToLine code

/-! ## Controller bodies -/

/-- A controller body finds no room: the cap, or the low-mark floor for a body that is not empty (R26, R27). -/
def State.noRoom (s : State) (c : Chain) (n : Nat) : Bool :=
  let need := blocksNeeded n (tailRoom (s.pool.chain c))
  decide (n ≠ 0) &&
    (decide (c.cap < (s.pool.chain c).length + need) || decide (s.pool.free.length - need ≤ s.msg.setup.lowMark))

/-- A body stored whole by the pool's own test (R7), or none. -/
def State.storeBody (s : State) (c : Chain) (body : List Byte) : Option State :=
  (s.pool.storeBody c body).map s.changePool

/-- PRINT TEXT (R26). -/
def State.printTextRule (s : State) (body : List Byte) : State × Answer :=
  if s.noRoom .prq body.length then (s, .busy .noRoom)
  else match s.storeBody .prq body with
    | some s' => (s'.openImage.arrival, .accepted)
    | none => (s, .busy .noRoom)

/-- The echo of a SEND TEXT body: stored whole or dropped whole with the loss recorded; a body of 0 characters changes nothing
(R7, R27). -/
def State.echoBody (s : State) (body : List Byte) : State :=
  if s.router.routing.echo then
    match s.storeBody .prq body with
    | some s' => s'
    | none => s.markLost .prq
  else s

/-- SEND TEXT (R27). -/
def State.sendTextRule (s : State) (body : List Byte) : State × Answer :=
  if !s.call.st.carrying then (s, .refused .offline)
  else if s.noRoom .txq body.length then (s, .busy .noRoom)
  else match s.storeBody .txq body with
    | some s' => ((s'.echoBody body).openImage.arrival, .accepted)
    | none => (s, .busy .noRoom)

end Sys2Proof.Machine
end

