-- ==== Sys2Proof/Machine/BudgetOps.lean ====
section
/-! DEFINITION. The need of the Print Engine (R140) and the Budget Unit (chapter 9): handing claims, raising, lowering, settling,
parking. -/

namespace Sys2Proof.Machine

/-! ## The work and its need -/

/-- The pattern of the dot line at which a run stands: a dot line of its image, or blank (R131, R134). -/
def State.runPattern (s : State) (r : Run) : Dots :=
  match r.image with
  | some id => if r.line = 0 then (s.asm.image id).render r.dot else 0
  | none => 0

/-- Work exists (R138). -/
def State.workExists (s : State) : Bool :=
  s.eng.stoppedLine.isSome || s.eng.rawWaiting.isSome || s.eng.run.isSome || s.asm.oldestWaiting.isSome
    || s.eng.inProgress.isSome

/-- The minimum useful claim (R140), with the dot current of the latest sample: a SETUP that changes the dot resistance acts on it
from the next sample (R125; log entry 51). -/
def State.minimumUseful (s : State) : Nat := max s.msg.setup.motor (15 * s.eng.dotCurrent)

/-- The need of a dot line by its pattern (R140). -/
def State.lineNeed (s : State) (p : Dots) : Nat := if p = 0 then s.msg.setup.motor else s.minimumUseful

/-- The pattern of the first item of work that is not a stopped dot line (R138): a waiting raw dot line, the run in hand, or
the oldest WAITING image. -/
def State.firstPattern (s : State) : Option Dots :=
  match s.eng.rawWaiting with
  | some p => some p
  | none => match s.eng.run with
    | some r => some (s.runPattern r)
    | none => match s.asm.oldestWaiting with
      | some id => some ((s.asm.image id).render 0)
      | none => none

/-- The need of the next dot line (R140); while a dot line is in progress it stands for that dot line, which has not left the
work (log entry 14). -/
def State.need (s : State) : Nat :=
  match s.eng.inProgress with
  | some d => if d.shifted then s.msg.setup.motor else s.lineNeed d.pattern
  | none =>
    if s.eng.stoppedLine.isSome then s.msg.setup.motor
    else match s.firstPattern with
      | some p => s.lineNeed p
      | none => 0

/-- The budget the engine may use: the granted budget, or the quiet budget while listen-only (R126, R169). -/
def State.engineBudget (s : State) : Nat := if s.line.listenOnly then Config.quietBudget else s.bud.granted

/-! ## Handing a claim -/

/-- The CLAIM slot after a value is handed (R161, R182): it replaces a value that no attempt carries, and waits behind one that
an attempt carries. -/
def Line.handClaim (l : Line) (mA : Nat) : Line :=
  match l.claimSlot with
  | none => { l with claimSlot := some { mA := mA, count := 0, next := none } }
  | some c =>
    if l.carrying .claim then { l with claimSlot := some { c with next := some mA } }
    else { l with claimSlot := some { mA := mA, count := 0, next := none } }

/-- The Budget Unit hands a value: it becomes the own claim, and handing 0 stops the restate timer (R161, R167). -/
def State.handClaim (s : State) (mA : Nat) : State :=
  (s.setBud { s.bud with own := mA, restateTimer := if mA = 0 then none else s.bud.restateTimer }).setLine (s.line.handClaim mA)

/-- The raise in progress is abandoned with its settle timer stopped (R166, R168, R170). -/
def Budget.abandonRaise (b : Budget) : Budget := { b with raise := .none, settleTimer := none }

/-- The end of a raise barrier started now (R165). -/
def State.barrierEnd (s : State) : Timer := some (s.now + s.line.addr.toNat * Config.barrierUnit)

/-- The raise barrier timer is started (R165). -/
def State.startBarrier (s : State) : State := s.setBud { s.bud with barrierTimer := s.barrierEnd }

/-- The granted budget takes a value, and a change of it asks for a BUDGET notice (R171). -/
def State.setGranted (s : State) (mA : Nat) (cause : BudgetCause) : State :=
  let s' := s.setBud { s.bud with granted := mA }
  if s.bud.granted = mA then s' else s'.askNotice (.budget mA s.available cause)

/-! ## Raising -/

/-- The raise state is NONE. -/
def Raise.isNone : Raise → Bool
  | .none => true
  | _ => false

/-- The raise test is passed over (R162). -/
def State.raisePassedOver (s : State) : Bool :=
  !s.bud.raise.isNone || s.bud.barrierTimer.isSome || s.line.listenOnly || s.msg.op = .doze

/-- The three conditions of a raise (R162). -/
def State.raiseWanted (s : State) : Bool :=
  (s.eng.st = .claiming || s.eng.st = .printing || s.eng.holds.budget)
    && decide (0 < s.desired) && decide (s.need ≤ s.desired)
    && (decide (s.bud.granted < s.need) || decide (s.bud.granted + Config.raiseHysteresis ≤ s.desired))

/-- The raise test (R162). -/
def State.raiseTest (s : State) : State :=
  if !s.raisePassedOver && s.raiseWanted then
    (s.setBud { s.bud with raise := .asking s.desired }).handClaim s.desired
  else s

/-- What the raise test is made upon a change of (R162). -/
structure RaiseInputs where
  st : EngineState
  budgetHeld : Bool
  need : Nat
  allowance : Nat
  battery : BatteryInUse
  tableSum : Nat
  fixedLoad : Nat
  ceiling : Nat
  granted : Nat
  raising : Bool
  deriving DecidableEq, Repr

/-- The inputs of the raise test as they stand. -/
def State.raiseInputs (s : State) : RaiseInputs :=
  { st := s.eng.st, budgetHeld := s.eng.holds.budget, need := s.need, allowance := s.bud.allowance, battery := s.bud.battery,
    tableSum := s.bud.tableSum, fixedLoad := s.fixedLoad, ceiling := s.ceiling, granted := s.bud.granted,
    raising := !s.bud.raise.isNone }

/-- The raise test made at the end of a step that changed one of its inputs (R162). -/
def State.budgetReview (before s : State) : State :=
  if s.raiseInputs = before.raiseInputs then s else s.raiseTest

/-- The park timer's condition (R168). -/
def State.parks (s : State) : Bool := s.eng.st = .idle && (decide (0 < s.bud.own) || decide (0 < s.bud.granted))

/-- The park timer is started when its condition becomes true and stopped when it becomes false (R168). -/
def State.parkReview (before s : State) : State :=
  if s.parks then
    if before.parks then s else s.setBud { s.bud with parkTimer := some (s.now + Config.parkTime) }
  else s.setBud { s.bud with parkTimer := none }

/-! ## Settling, lowering, releasing -/

/-- The outcome of a settle (R164): the granted budget, and the value handed, with which the barrier is started. -/
def settleOutcome (c available need : Nat) : Nat × Option Nat :=
  if c ≤ available then
    if need ≤ c then (c, none) else (0, some 0)
  else if need ≤ floor10 available then (floor10 available, some (floor10 available))
  else (0, some 0)

/-- The end of a settle for the Budget Unit: granted budget, value handed, barrier, BUDGET notice, raise state NONE (R164). -/
def State.settleEnd (s : State) (c : Nat) : State :=
  let r := settleOutcome c s.available s.need
  let s1 := s.setBud s.bud.abandonRaise
  let s2 := match r.2 with
    | some v => (s1.handClaim v).startBarrier
    | none => s1
  s2.setGranted r.1 .settle

/-- The lowering at a dot-line start (R166); none is made while listen-only (R169). -/
def State.lowerAtStart (s : State) : State :=
  if !s.line.listenOnly && decide (s.available < s.bud.granted) then
    (((s.setBud s.bud.abandonRaise).handClaim (floor10 s.available)).startBarrier).setGranted (floor10 s.available) .lower
  else s

/-- The claim released: raise abandoned, granted budget and own claim 0, and a 0 handed where there was a claim to release
(R168, R170). -/
def State.releaseClaim (s : State) (handZero : Bool) (cause : BudgetCause) : State :=
  let s1 := s.setBud { s.bud.abandonRaise with own := 0 }
  let s2 := if handZero then s1.handClaim 0 else s1
  s2.setGranted 0 cause

/-- The release made when a DOZE request is taken (R170); while listen-only nothing is handed (R169). -/
def State.dozeRelease (s : State) : State :=
  let s1 := s.releaseClaim (!s.line.listenOnly && (decide (0 < s.bud.own) || decide (0 < s.bud.completed))) .doze
  s1.setBud { s1.bud with restateTimer := none, parkTimer := none, settleTimer := none, barrierTimer := none }

/-! ## Outcomes of handed values -/

/-- A handed value completes (R161, R163, R167): the completed claim takes it, the restate timer is started or, for 0,
stopped; and if it is the value being raised to, the settle begins. -/
def State.claimCompleted (s : State) (mA : Nat) (isLast : Bool) : State :=
  let restate : Timer := if mA = 0 then none else some (s.now + Config.restateTime)
  let b := { s.bud with completed := mA, restateTimer := restate }
  match s.bud.raise with
  | .asking v =>
    if isLast then s.setBud { b with raise := .settling v, settleTimer := some (s.now + Config.settleTime) }
    else s.setBud b
  | _ => s.setBud b

/-- A handed value is discarded after its attempts (R163, R167). -/
def State.claimDiscarded (s : State) (mA : Nat) : State :=
  let restate : Timer := if mA = 0 then s.bud.restateTimer else some (s.now + Config.restateTime)
  let b := { s.bud with restateTimer := restate }
  match s.bud.raise with
  | .asking _ => s.setBud { b with raise := .none, own := s.bud.completed, barrierTimer := s.barrierEnd }
  | _ => s.setBud b

/-! ## What is heard -/

/-- An ALLOWANCE is accepted into the record (R156). -/
def Budget.accepts (b : Budget) (src : Addr) (mA : Nat) : Bool :=
  match b.record with
  | none => true
  | some r => !r.fresh || r.source = src || decide (mA < r.mA)

/-- An ALLOWANCE heard (R156). -/
def Budget.hearAllowance (b : Budget) (src : Addr) (mA : Nat) (battery : Battery) : Budget :=
  if b.accepts src mA then { b with record := some { mA := mA, battery := battery, source := src, age := 0 } } else b

/-- The entries of the other addresses. -/
def Budget.dropEntry (b : Budget) (src : Addr) : Budget := { b with table := b.table.filter fun e => e.addr ≠ src }

/-- A CLAIM heard from another station (R158). -/
def Budget.hearClaim (b : Budget) (own src : Addr) (mA : Nat) : Budget :=
  if src = 0 ∨ src = 15 ∨ src = own then b
  else if mA = 0 then b.dropEntry src
  else if b.table.any (fun e => e.addr = src) then
    { b with table := b.table.map fun e => if e.addr = src then { e with mA := mA, age := 0 } else e }
  else { b with table := b.table ++ [{ addr := src, mA := mA, age := 0 }] }

/-- A PRESENT heard: the entry of its source is removed; a source of 0, 15 or the own address changes nothing (R184). -/
def Budget.hearPresent (b : Budget) (own src : Addr) : Budget :=
  if src = 0 ∨ src = 15 ∨ src = own then b else b.dropEntry src

/-- One 100 ms tick: the record's age rises and stops at 30, the entries' ages rise, and an entry whose age reaches 25 is
removed (R156, R159). -/
def Budget.age (b : Budget) : Budget :=
  { b with
    record := b.record.map fun r => { r with age := min Config.recordStaleAge (r.age + 1) }
    table := (b.table.map fun e => { e with age := e.age + 1 }).filter fun e => e.age < Config.entryDropAge }

end Sys2Proof.Machine
end

