-- ==== Sys2Proof/Machine/StrobeOps.lean ====
section
/-! DEFINITION. The figures of a dot line (chapter 7): heating time and phases, history classes, the packing of bursts, and the
phases of a burst. -/

namespace Sys2Proof.Machine

/-! ## Heating -/

/-- The reference time (R120). -/
def referenceTime (darkness : Nat) : Nat := 600 + 100 * darkness

/-- The voltage-corrected time at a used voltage in mV (R120). -/
def voltageTime (darkness mv : Nat) : Nat := divRound (referenceTime darkness * 51840000) (mv * mv)

/-- 125 − T for the temperature code: T is tc − 40 °C, used as −15 below −15 (R118, R119, R120). -/
def coolFactor (tc : Byte) : Nat := 165 - max 25 tc.toNat

/-- The heating time t_T (R120). -/
def heatTime (darkness : Nat) (vc tc : Byte) : Nat :=
  clampTo 250 2500 (divRound (voltageTime darkness (min 9000 (supplyMv vc)) * coolFactor tc) 100)

/-- P1 (R121). -/
def phase1 (heat : Nat) : Nat := divRound (heat * 60) 100

/-- The three-quarter time t75 (R121). -/
def threeQuarter (heat : Nat) : Nat := divRound (heat * 75) 100

/-- P2 (R121). -/
def phase2 (heat : Nat) : Nat := threeQuarter heat - phase1 heat

/-- P3 (R121). -/
def phase3 (heat : Nat) : Nat := heat - threeQuarter heat

/-! ## History classes (R122) -/

/-- The on dots of class 0. -/
def class0 (pattern previous : Dots) : Dots := pattern &&& ~~~previous

/-- The on dots of class 1. -/
def class1 (pattern previous beforePrevious : Dots) : Dots := pattern &&& previous &&& ~~~beforePrevious

/-- The on dots of class 2. -/
def class2 (pattern previous beforePrevious : Dots) : Dots := pattern &&& previous &&& beforePrevious

/-! ## Packing (R127, R128) -/

/-- The dots of a part of the head. -/
def partDots (pattern : Dots) (lo n : Nat) : Dots := pattern &&& span lo n

/-- A quarter's burst: none without on dots, failing above the budget (R128). -/
def packQuarter (current budget : Nat) (pattern : Dots) (lo : Nat) : Option (List Dots) :=
  let c := dotsFrom pattern lo 15 * current
  if dotsFrom pattern lo 15 = 0 then some []
  else if c ≤ budget then some [partDots pattern lo 15] else none

/-- A half's bursts: none without on dots, one within the budget, else its quarters (R128). -/
def packHalf (current budget : Nat) (pattern : Dots) (lo : Nat) : Option (List Dots) :=
  let c := dotsFrom pattern lo 30 * current
  if dotsFrom pattern lo 30 = 0 then some []
  else if c ≤ budget then some [partDots pattern lo 30]
  else match packQuarter current budget pattern lo, packQuarter current budget pattern (lo + 15) with
    | some a, some b => some (a ++ b)
    | _, _ => none

/-- The bursts of a group split into its halves (R128). -/
def splitGroup (current budget : Nat) (pattern : Dots) (lo : Nat) : Option (List Dots) :=
  match packHalf current budget pattern lo, packHalf current budget pattern (lo + 30) with
  | some a, some b => some (a ++ b)
  | _, _ => none

/-- The scan of the strobe groups from the left (R127): the open burst with its running sum, and the bursts made. `groups` is
how many groups remain, `lo` the first position of the next. -/
def packGroups (current budget : Nat) (pattern : Dots) : (groups lo : Nat) → (opened : Dots) → (sum : Nat) → List Dots →
    Option (List Dots)
  | 0, _, opened, _, made => some (if opened = 0 then made else made ++ [opened])
  | n + 1, lo, opened, sum, made =>
    let c := dotsFrom pattern lo 60 * current
    if dotsFrom pattern lo 60 = 0 then packGroups current budget pattern n (lo + 60) opened sum made
    else if opened ≠ 0 ∧ sum + c ≤ budget then
      packGroups current budget pattern n (lo + 60) (opened ||| partDots pattern lo 60) (sum + c) made
    else
      let made' := if opened = 0 then made else made ++ [opened]
      if c ≤ budget then packGroups current budget pattern n (lo + 60) (partDots pattern lo 60) c made'
      else match splitGroup current budget pattern lo with
        | some parts => packGroups current budget pattern n (lo + 60) 0 0 (made' ++ parts)
        | none => none

/-- The bursts of a dot line, or none where the packing fails (R127, R128). -/
def packLine (current budget : Nat) (pattern : Dots) : Option (List Dots) := packGroups current budget pattern 8 0 0 0 []

/-! ## A burst (R130) -/

/-- The strobe groups that have a dot in a burst; bit g − 1 is group g. -/
def groupsOf (burst : Dots) : BitVec 8 :=
  (List.range 8).foldl (fun acc g => if dotsFrom burst (60 * g) 60 = 0 then acc else acc ||| (1#8 <<< g)) 0

/-- The end of a burst: the load of the next one, or the ADVANCE, whose first half-step begins at that moment (R130, R132). -/
def DotLine.nextBurst (d : DotLine) : DotLine :=
  match d.bursts with
  | _ :: b :: rest => { d with bursts := b :: rest, stage := .load, ends := d.ends + Config.loadTime }
  | _ => { d with bursts := [], stage := .advance, starting := true }

/-- The next stage of a burst (R123, R130): P1 always, P2 if the burst holds a dot of class 0 or 1, P3 if it holds one of
class 0. The history is the engine's. -/
def DotLine.nextStage (d : DotLine) (previous beforePrevious : Dots) : DotLine :=
  let b := d.bursts.headD 0
  let warm := class0 b previous ||| class1 b previous beforePrevious
  match d.stage with
  | .load => { d with stage := .p1, ends := d.ends + d.p1 }
  | .p1 =>
    if warm ≠ 0 then { d with stage := .p2, ends := d.ends + d.p2 }
    else d.nextBurst
  | .p2 =>
    if class0 b previous ≠ 0 then { d with stage := .p3, ends := d.ends + d.p3 }
    else d.nextBurst
  | .p3 => d.nextBurst
  | .advance => d

/-- The dots being heated in a stage, which the head's latch holds: P1 heats every on dot, P2 those of classes 0 and 1, P3
those of class 0 (R123, R130). -/
def DotLine.heated (d : DotLine) (previous beforePrevious : Dots) : Dots :=
  let b := d.bursts.headD 0
  match d.stage with
  | .p1 => b
  | .p2 => class0 b previous ||| class1 b previous beforePrevious
  | .p3 => class0 b previous
  | _ => 0

/-- The strobes driven low in a stage: in every phase, those of every group that has a dot in the burst (R130). -/
def DotLine.strobes (d : DotLine) : BitVec 8 :=
  match d.stage with
  | .load => 0
  | .advance => 0
  | _ => groupsOf (d.bursts.headD 0)

/-- The motor outputs driven in a phase: bits 0 to 3 are MA to MD (R132). -/
def motorOutputs (phase : BitVec 3) : BitVec 4 :=
  match phase.toNat with
  | 0 => 0b0001
  | 1 => 0b0011
  | 2 => 0b0010
  | 3 => 0b0110
  | 4 => 0b0100
  | 5 => 0b1100
  | 6 => 0b1000
  | _ => 0b1001

end Sys2Proof.Machine
end

