-- ==== Sys2Proof/Machine/EngineOps.lean ====
section
/-! DEFINITION. The Print Engine's states, holds and dot lines (chapters 7 and 8). -/

namespace Sys2Proof.Machine

/-! ## Engine state and hold conditions -/

/-- The engine takes a state; the watch timer is started at entry to IDLE, CLAIMING or HELD and stopped in PRINTING (R118). -/
def State.setEngineState (s : State) (st : EngineState) : State :=
  if s.eng.st = st then s
  else s.setEng { s.eng with st := st, watchTimer := if st = .printing then none else some (s.now + Config.watchPeriod) }

/-- A sample replaces the latest readings and the latest dot current (R118, R125). -/
def State.readSense (s : State) (sense : Sense) : State :=
  (s.setEng { s.eng with vc := sense.vc, tc := sense.tc, dotCurrent := dotCurrentOf sense.vc s.msg.setup.dotOhms }).setPins
    { s.pins with paper := sense.paper, door := sense.door }

/-- The set of hold conditions after a sample's live tests (R119, R145). -/
def State.liveHolds (s : State) (sense : Sense) : HoldSet :=
  { s.eng.holds with
    headHot := headHotAfter s.eng.holds.headHot sense.tc
    lowVoltage := lowVoltageAfter s.eng.holds.lowVoltage sense.vc
    batteryCritical := decide (s.bud.battery = .critical)
    doorOpen := !sense.door
    paperOut := !sense.paper }

/-- The set with the CONTROLLER-HOLD that an ended step makes present (R151). -/
def stepEnded (step : Step) (h : HoldSet) : HoldSet :=
  match step with
  | .none => h
  | _ => { h with controllerHold := true }

/-- Entry to HELD with a set: the highest condition is recorded and locked, the hold entry count rises, PRINT-HELD is asked for
(R144, R147). -/
def State.enterHeld (s : State) (h : HoldSet) : State :=
  match h.highest with
  | none => s
  | some c =>
    let n := s.eng.holdCount + 1
    ((s.setEng { s.eng with holds := h, cause := some c, holdCount := n, step := .none }).setEngineState .held).askNotice
      (.printHeld c h n)

/-- A change of the set while HELD that leaves a condition present: the cause is locked while it is present, and otherwise
passes to the highest that remains, with a PRINT-HELD (R147). -/
def State.keepHeld (s : State) (h : HoldSet) : State :=
  match h.highest with
  | none => s
  | some c =>
    match s.eng.cause with
    | some old =>
      if h.has old then s.setEng { s.eng with holds := h }
      else (s.setEng { s.eng with holds := h, cause := some c }).askNotice (.printHeld c h s.eng.holdCount)
    | none => (s.setEng { s.eng with holds := h, cause := some c }).askNotice (.printHeld c h s.eng.holdCount)

/-- A change of the set to one that is not empty; a step in force ends with it (R144, R147, R151). -/
def State.applyHolds (s : State) (h : HoldSet) : State :=
  if s.eng.holds.any then s.keepHeld h else s.enterHeld (stepEnded s.eng.step h)

/-- BUDGET is raised where no dot line is in progress (R146). -/
def State.raiseBudgetHold (s : State) : State := s.applyHolds { s.eng.holds with budget := true }

/-! ## The SAMPLE stage -/

/-- With no raw dot line waiting and no run in hand, the oldest WAITING image becomes the run and is PRINTING (R139, R143). -/
def State.takeRun (s : State) : State :=
  match s.eng.rawWaiting, s.eng.run, s.asm.oldestWaiting with
  | none, none, some id =>
    (s.setEng { s.eng with run := some { image := some id, line := 0, dot := 0 } }).setAsm
      (s.asm.setImage id { s.asm.image id with st := .printing })
  | _, _, _ => s

/-- The darkness of the first item's next dot line: the staged darkness for a raw dot line, else the image's (R131). -/
def State.lineDarkness (s : State) : Nat :=
  match s.eng.rawWaiting, s.eng.run with
  | some _, _ => s.asm.stagedDarkness
  | none, some { image := some id, .. } => (s.asm.image id).darkness
  | none, _ => 0

/-- The history after the cool-down test (R124): cleared 100 ms or more after the last shift. -/
def State.cooledHistory (s : State) : Dots × Dots :=
  match s.eng.lastShift with
  | some t => if t + Config.coolDown ≤ s.now then (0, 0) else (s.eng.previous, s.eng.beforePrevious)
  | none => (s.eng.previous, s.eng.beforePrevious)

/-- The dot line that has passed its SAMPLE stage begins (R120, R121, R126, R130): its record, the history as the cool-down
leaves it, and the figures that STATUS reports. -/
def State.beginDotLine (s : State) (pattern : Dots) (bursts : List Dots) : State :=
  let heat := heatTime s.lineDarkness s.eng.vc s.eng.tc
  let d : DotLine :=
    { raw := s.eng.rawWaiting.isSome, pattern := pattern, darkness := s.lineDarkness, dotOhms := s.msg.setup.dotOhms,
      motor := s.msg.setup.motor, dotCurrent := s.eng.dotCurrent, heat := if pattern = 0 then 0 else heat,
      p1 := if pattern = 0 then 0 else phase1 heat, p2 := if pattern = 0 then 0 else phase2 heat,
      p3 := if pattern = 0 then 0 else phase3 heat, budget := s.engineBudget, bursts := bursts,
      stage := if bursts.isEmpty then .advance else .load,
      ends := if bursts.isEmpty then s.now else s.now + Config.loadTime, halfSteps := 0, starting := bursts.isEmpty,
      shifted := false }
  s.setEng { s.eng with
    rawWaiting := none
    inProgress := some d
    previous := s.cooledHistory.1
    beforePrevious := s.cooledHistory.2
    lastHeat := if pattern = 0 then s.eng.lastHeat else heat
    lastBursts := if pattern = 0 then s.eng.lastBursts else bursts.length }

/-- The budget, the motor test and the packing of a dot line whose hold tests have passed (R126 to R129, R166). -/
def State.budgetAndPack (s : State) : State :=
  let s1 := s.lowerAtStart
  let pattern := s1.firstPattern.getD 0
  if s1.engineBudget < s1.msg.setup.motor then s1.raiseBudgetHold
  else match packLine s1.eng.dotCurrent s1.engineBudget pattern with
    | some bursts => s1.beginDotLine pattern bursts
    | none => s1.raiseBudgetHold

/-- The SAMPLE stage of the first item's next dot line (R131): the sample and its hold tests, and only with no condition
present the rest. -/
def State.sampleStage (s : State) (sense : Sense) : State :=
  let s1 := s.takeRun.readSense sense
  let h := s1.liveHolds sense
  if h.any then s1.applyHolds h else s1.budgetAndPack

/-! ## The end of a dot line -/

/-- The pattern shifted into the history at the present moment (R133). -/
def Engine.shift (e : Engine) (pattern : Dots) (now : Nat) : Engine :=
  { e with beforePrevious := e.previous, previous := pattern, lastShift := some now }

/-- The blank text lines after the run's own one (R134). -/
def State.runBlanks (s : State) (r : Run) : Nat :=
  match r.image with
  | some id => (s.asm.image id).blanksAfter
  | none => 0

/-- A completed dot line of the run moves its place on; the tenth reports its text line completed, and the last text line ends
the run and frees its image (R133, R134). The flag says that the run is done. -/
def State.advanceRun (s : State) : State × Bool :=
  match s.eng.run with
  | none => (s, false)
  | some r =>
    if r.dot + 1 < 10 then (s.setEng { s.eng with run := some { r with dot := r.dot + 1 } }, false)
    else
      let s1 := s.textLineDone
      if r.line < s.runBlanks r then
        (s1.setEng { s1.eng with run := some { r with line := r.line + 1, dot := 0 } }, false)
      else
        let s2 := s1.setEng { s1.eng with run := none }
        (match r.image with
          | some id => s2.freeImage id
          | none => s2, true)

/-- The dot line is complete (R133): the motor is off, the history is shifted unless STOP NOW has shifted it (R135), and a dot
line of the run moves the run's place on. -/
def State.completeDotLine (s : State) (d : DotLine) : State × Bool :=
  let e := if d.shifted then s.eng else s.eng.shift d.pattern s.now
  let s1 := (s.setEng { e with inProgress := none }).setPins { s.pins with motor := 0, strobes := 0 }
  if d.raw then (s1, false) else s1.advanceRun

/-- The extent of the step in force is done at the end of that dot line (R151, R152). -/
def stepDone (step : Step) (raw runDone : Bool) : Bool :=
  match step with
  | .none => false
  | .line untilRaw => if untilRaw then raw else runDone
  | .dot => raw

/-- The engine goes on with the first item of work, or is IDLE (R143). -/
def State.goOn (s : State) (sense : Sense) : State :=
  if s.workExists then s.sampleStage sense else s.setEngineState .idle

/-- The end of a dot line, in the order of R143. -/
def State.endDotLine (s : State) (d : DotLine) (sense : Sense) : State :=
  let r := s.completeDotLine d
  let s1 := r.1
  let done := stepDone s1.eng.step d.raw r.2
  let h := { s1.eng.holds with
    controllerHold := s1.eng.holds.controllerHold || s1.eng.holdAsked || done
    budget := s1.eng.holds.budget || s1.eng.budgetAsked }
  let s2 := s1.setEng { s1.eng with holdAsked := false, budgetAsked := false, step := if done then .none else s1.eng.step }
  if h.any then s2.applyHolds h else s2.goOn sense

/-! ## The work test -/

/-- The first item begins in PRINTING (R135, R141): a stopped dot line takes no sample, is tested against the motor current,
and makes its remaining half-steps, being complete at once with none; any other begins with its SAMPLE stage. -/
def State.startItem (s : State) (sense : Sense) : State :=
  match s.eng.stoppedLine with
  | some d =>
    if s.engineBudget < s.msg.setup.motor then s.raiseBudgetHold
    else
      let d' := { d with stage := Stage.advance, ends := s.now, starting := decide (d.halfSteps < 2) }
      let s1 := s.setEng { s.eng with stoppedLine := none, inProgress := some d' }
      if 2 ≤ d.halfSteps then s1.endDotLine d' sense else s1
  | none => s.sampleStage sense

/-- What the work test finds (R141). -/
inductive WorkVerdict where
  | idle
  | printing
  | claiming
  | short
  deriving DecidableEq, Repr

/-- The work test's finding: no work, a budget that meets the need, or one that falls short (R141). -/
def State.workVerdict (s : State) : WorkVerdict :=
  if !s.workExists then .idle
  else if s.need ≤ s.engineBudget then .printing
  else if s.line.listenOnly then .short else .claiming

/-- The work test, with no condition present and no dot line in progress (R141). -/
def State.workTest (s : State) (sense : Sense) : State :=
  match s.workVerdict with
  | .idle => s.setEngineState .idle
  | .printing => (s.setEngineState .printing).startItem sense
  | .claiming => s.setEngineState .claiming
  | .short => s.raiseBudgetHold

/-- The last condition has ceased (R144, R147): the cause becomes NONE, PRINT-RESUMED names the state the work test enters, and
that state's work begins. Where the work test of a listen-only part raises BUDGET at once, HELD is entered anew with its count
and notice, and the watch timer runs on from before (log entry 50). -/
def State.leaveHeld (s : State) (sense : Sense) : State :=
  let s1 := s.setEng { s.eng with holds := {}, cause := none }
  match s1.workVerdict with
  | .idle => (s1.setEngineState .idle).askNotice (.printResumed s1.eng.holdCount .idle)
  | .printing =>
    ((s1.setEngineState .printing).askNotice (.printResumed s1.eng.holdCount .printing)).startItem sense
  | .claiming => (s1.setEngineState .claiming).askNotice (.printResumed s1.eng.holdCount .claiming)
  | .short => s1.raiseBudgetHold

/-- A change of the set of conditions to `h`, with the change of engine state it implies (R144). -/
def State.changeHolds (s : State) (h : HoldSet) (sense : Sense) : State :=
  if h.any then s.applyHolds h
  else if s.eng.holds.any then s.leaveHeld sense
  else s

/-- Work appears, and the work test follows where it may be made (R141). -/
def State.workAppears (s : State) (sense : Sense) : State :=
  if s.eng.holds.any || s.eng.inProgress.isSome then s else s.workTest sense

/-! ## Samples outside a dot line -/

/-- The sample at entry to START, at RESTART and at wake (R118, R154, R155). -/
def State.sampleNow (s : State) (sense : Sense) : State :=
  let s1 := s.readSense sense
  let h := s1.liveHolds sense
  if h.any then s1.applyHolds h else s1

/-- BUDGET after a watch sample (R142, R146). -/
def State.budgetAfterWatch (s : State) : Bool :=
  if s.line.listenOnly then s.eng.holds.budget
  else if s.eng.holds.budget then decide (s.bud.granted < s.need)
  else decide (s.eng.st = .claiming) && decide (s.bud.granted < s.need) && decide (s.desired < s.need)

/-- A watch sample (R118, R141, R142, R145): all its changes of the set are one step, and the work test follows where no
condition is present. -/
def State.watch (s : State) (sense : Sense) : State :=
  let s0 := s.readSense sense
  let s1 := s0.setEng { s0.eng with watchTimer := some (s0.now + Config.watchPeriod) }
  let h := { s1.liveHolds sense with budget := s1.budgetAfterWatch }
  if h.any then s1.applyHolds h
  else if s1.eng.holds.any then s1.leaveHeld sense
  else s1.workTest sense

/-! ## What the Budget Unit reports -/

/-- The end of a settle reported to the engine (R141, R142, R146). -/
def State.settleReport (s : State) (sense : Sense) : State :=
  if s.eng.inProgress.isSome then s.setEng { s.eng with budgetAsked := decide (s.bud.granted < s.need) }
  else if s.eng.holds.any then
    s.changeHolds { s.eng.holds with budget := decide (s.bud.granted < s.need) } sense
  else if s.eng.st ≠ .idle ∧ s.bud.granted < s.need then s.raiseBudgetHold
  else s.workTest sense

/-- Entry of the part to listen-only, for the engine (R142, R146): BUDGET ceases, the budget asked flag is cleared, and an
engine in CLAIMING makes the work test with the quiet budget. -/
def State.engineListenOnly (s : State) (sense : Sense) : State :=
  let s1 := s.setEng { s.eng with budgetAsked := false }
  if s1.eng.holds.budget then s1.changeHolds { s1.eng.holds with budget := false } sense
  else if s1.eng.st = .claiming then s1.workTest sense
  else s1

/-! ## The print control requests -/

/-- HOLD (R148). -/
def State.holdRule (s : State) : State × Answer :=
  if s.eng.holds.controllerHold || s.eng.holdAsked then (s, .accepted)
  else if s.eng.inProgress.isSome then (s.setEng { s.eng with holdAsked := true }, .accepted)
  else (s.applyHolds { s.eng.holds with controllerHold := true }, .accepted)

/-- RESUME finds something to clear (R149). -/
def Engine.resumable (e : Engine) : Bool :=
  e.holds.stopped || e.holds.controllerHold || e.holdAsked || decide (e.step ≠ .none)

/-- RESUME (R149). -/
def State.resumeRule (s : State) (sense : Sense) : State × Answer :=
  if s.eng.resumable then
    let s1 := s.setEng { s.eng with holdAsked := false, step := .none }
    (s1.changeHolds { s1.eng.holds with stopped := false, controllerHold := false } sense, .accepted)
  else (s, .refused .notInState)

/-- STOP NOW cuts the dot line in progress (R135): strobes high and motor off at once, the pattern shifted into the history
unless it was before, and the dot line left at its ADVANCE. Where the load, phase or half-step before has ended and the next
half-step begins at this moment, that one has begun, with its step of the motor phase, and is the one cut. -/
def State.cutDotLine (s : State) : State :=
  match s.eng.inProgress with
  | none => s
  | some d =>
    let e := if d.shifted then s.eng else s.eng.shift d.pattern s.now
    let d' := { d with
      stage := Stage.advance, bursts := [], shifted := true, starting := false
      halfSteps := if d.starting then d.halfSteps + 1 else d.halfSteps }
    (s.setEng { e with
      inProgress := none, stoppedLine := some d'
      motorPhase := if d.starting then e.motorPhase + 1 else e.motorPhase }).setPins { s.pins with strobes := 0, motor := 0 }

/-- STOP NOW (R150). -/
def State.stopNowRule (s : State) : State × Answer :=
  let s1 := s.cutDotLine
  let h := { s1.eng.holds with
    stopped := true
    controllerHold := s1.eng.holds.controllerHold || s1.eng.holdAsked
    budget := s1.eng.holds.budget || s1.eng.budgetAsked }
  let s2 := s1.setEng { s1.eng with holdAsked := false, budgetAsked := false }
  (s2.applyHolds h, .accepted)

/-- The extent of a line step is a raw dot line: one left at its ADVANCE, or a waiting one (R151). -/
def Engine.stepsRaw (e : Engine) : Bool :=
  match e.stoppedLine with
  | some d => d.raw
  | none => e.rawWaiting.isSome

/-- STEP LINE (R151). -/
def State.stepLineRule (s : State) (sense : Sense) : State × Answer :=
  if s.eng.holds.controllerAlone && s.workExists then
    ((s.setEng { s.eng with step := .line s.eng.stepsRaw }).leaveHeld sense, .accepted)
  else (s, .refused .notInState)

/-- The 60 bytes of a RAW DOT LINE as dots: the first byte's most significant bit is position 0 (R131, R195). -/
def rawPattern (body : List Byte) : Dots :=
  (List.range 480).foldl (fun acc p =>
    if ((body[p / 8]?).getD 0).getLsbD (7 - p % 8) then acc ||| span p 1 else acc) 0

/-- RAW DOT LINE (R152). -/
def State.rawDotLineRule (s : State) (body : List Byte) (sense : Sense) : State × Answer :=
  if s.eng.holds.controllerAlone && s.eng.stoppedLine.isNone && s.eng.rawWaiting.isNone then
    ((s.setEng { s.eng with step := .dot, rawWaiting := some (rawPattern body) }).leaveHeld sense, .accepted)
  else (s, .refused .notInState)

/-- SET DARKNESS: above 7 is staged as 7 (R153). -/
def State.setDarknessRule (s : State) (v : Byte) : State × Answer :=
  (s.setAsm { s.asm with stagedDarkness := min 7 v.toNat }, if v.toNat ≤ 7 then .accepted else .adjusted)

/-- SET WIDTH: 0 is NORMAL and 1 WIDE; above 1 is staged as WIDE (R153). -/
def State.setWidthRule (s : State) (v : Byte) : State × Answer :=
  (s.setAsm { s.asm with stagedWide := decide (v ≠ 0) }, if v.toNat ≤ 1 then .accepted else .adjusted)

/-- PAPER FEED (R55, R113): taken when the engine is IDLE and no image, or an empty one, is OPEN; otherwise refused with the
error beep. -/
def State.paperFeed (s : State) (sense : Sense) : State :=
  let openEmpty := match s.asm.openId with
    | some id => (s.asm.image id).isEmpty
    | none => true
  if s.eng.st = .idle && openEmpty then
    ((s.setEng { s.eng with run := some { image := none, line := 0, dot := 0 } }).setAsm
      { s.asm with committed := s.asm.committed + 1 }).workAppears sense
  else s.askSound .error

end Sys2Proof.Machine
end

