-- ==== Sys2Proof/Machine/CloseOps.lean ====
section
/-! DEFINITION. What the Line Assembler does with the cells of PRQ (chapter 6): placing glyphs with their overflow, line ends,
moves within a line, closing an image and the idle flush. -/

namespace Sys2Proof.Machine

/-- The image `id` closed with a blank-lines-after count (R112): it takes the next close order and becomes WAITING, the committed
lines rise, the idle-flush timer stops, and the engine is told; then an image is opened if one may be (R102). -/
def State.closeImage (s : State) (id : ImageId) (blanks : Nat) (sense : Sense) : State :=
  let a := s.asm.setImage id { s.asm.image id with st := .waiting, blanksAfter := blanks, order := s.asm.nextOrder }
  ((s.setAsm { a with
      nextOrder := s.asm.nextOrder + 1
      committed := s.asm.committed + (1 + blanks)
      flushTimer := none }).workAppears sense).openImage

/-- The handling of a cell so far: it goes on with the OPEN image, or it has ended; an overflow under WRAP ends it with the
placements that wait to be carried. -/
inductive Placed where
  | goesOn
  | overflow
  deriving DecidableEq, Repr

/-- One glyph placed at the current column (R104 to R106): dropped while truncating; beyond the width an overflow, which under
TRUNCATE drops the glyph and sets the flag, and under WRAP is left to the caller. -/
def State.place (s : State) (id : ImageId) (g : Glyph) : State × Placed :=
  if s.asm.truncating then (s, .goesOn)
  else if s.asm.column < columnsOf (s.asm.image id).wide then (s.setAsm (s.asm.placeAt id g), .goesOn)
  else if s.msg.setup.truncate then (s.setAsm { s.asm with truncating := true }, .goesOn)
  else (s, .overflow)

/-- The overflow of the WRAP rule: the image closes with no blank lines, the column becomes 0, and the glyphs are carried
(R105). -/
def State.wrap (s : State) (id : ImageId) (carried : List Glyph) (sense : Sense) : State :=
  (s.setAsm { s.asm with column := 0, carried := carried }).closeImage id 0 sense

/-- One glyph placed, with its overflow (R104, R105). -/
def State.placeOrWrap (s : State) (id : ImageId) (g : Glyph) (sense : Sense) : State :=
  match s.place id g with
  | (s', .goesOn) => s'
  | (s', .overflow) => s'.wrap id [g] sense

/-- The next multiple of 8 above a column (R110). -/
def nextTab (column : Nat) : Nat := (column / 8 + 1) * 8

/-- The blank-lines-after count of an FF (R109). -/
def State.formFeedBlanks (s : State) : Nat :=
  let l := s.msg.setup.formLength
  if l = 0 then 1 else l - 1 - (s.asm.formPosition + s.asm.committed) % l

/-- CR (R106, R107). -/
def State.takeCr (s : State) (id : ImageId) (sense : Sense) : State :=
  let a := { s.asm with truncating := false }
  if (a.image id).isEmpty && a.column = 0 then s.setAsm a
  else (s.setAsm { a with column := 0, crFlag := true }).closeImage id 0 sense

/-- LF (R106, R108). -/
def State.takeLf (s : State) (id : ImageId) (sense : Sense) : State :=
  let s' := s.setAsm { s.asm with truncating := false, crFlag := false }
  if s.asm.crFlag then s' else s'.closeImage id 0 sense

/-- FF (R106, R109). -/
def State.takeFf (s : State) (id : ImageId) (sense : Sense) : State :=
  (s.setAsm { s.asm with truncating := false, crFlag := false }).closeImage id s.formFeedBlanks sense

/-- BS (R110). -/
def State.takeBs (s : State) : State := s.setAsm { s.asm with column := s.asm.column - 1, crFlag := false }

/-- HT (R110). -/
def State.takeHt (s : State) (id : ImageId) (sense : Sense) : State :=
  if nextTab s.asm.column ≤ columnsOf (s.asm.image id).wide then
    s.setAsm { s.asm with column := nextTab s.asm.column, crFlag := false }
  else if s.msg.setup.truncate then s.setAsm { s.asm with truncating := true, crFlag := false }
  else (s.setAsm { s.asm with column := 0, crFlag := false }).closeImage id 0 sense

/-- What a cell asks for once its LOST-BEFORE is dealt with: a glyph to place, or an action (R103 steps 2 to 5). -/
inductive CellAction where
  | glyph (g : Glyph)
  | bell
  | backspace
  | tab
  | lineFeed
  | formFeed
  | carriageReturn
  | ignored
  deriving DecidableEq, Repr

/-- The class of a code below 80h (R103 step 5). -/
def codeAction (code : Byte) : CellAction :=
  if 0x20 ≤ code.toNat && code.toNat ≤ 0x7E then .glyph (.printable code)
  else if code = 0x07 then .bell
  else if code = 0x08 then .backspace
  else if code = 0x09 then .tab
  else if code = 0x0A then .lineFeed
  else if code = 0x0C then .formFeed
  else if code = 0x0D then .carriageReturn
  else .ignored

/-- Steps 2 to 5 of R103 for a cell, under the high-bit rule of the setup record. -/
def cellAction (strip : Bool) (c : Cell) : CellAction :=
  if c.lineBreak then .glyph .lineBreak
  else if c.parity || c.framing then .glyph .error
  else if 0x80 ≤ c.code.toNat then if strip then codeAction (c.code - 0x80) else .glyph .error
  else codeAction c.code

/-- The action of a cell (R103 step 5). -/
def State.actOn (s : State) (id : ImageId) (act : CellAction) (sense : Sense) : State :=
  match act with
  | .glyph g => s.placeOrWrap id g sense
  | .bell => s.askSound .bell
  | .backspace => s.takeBs
  | .tab => s.takeHt id sense
  | .lineFeed => s.takeLf id sense
  | .formFeed => s.takeFf id sense
  | .carriageReturn => s.takeCr id sense
  | .ignored => s

/-- What a cell whose LOST glyph overflowed leaves to be carried: the LOST glyph and the placement that would have followed it
(R105). -/
def carriedWith (act : CellAction) : List Glyph :=
  match act with
  | .glyph g => [.lost, g]
  | _ => [.lost]

/-- A cell handled whole (R103). The LOST placement of step 1 meets the truncating flag as it stands before the cell, also where the
cell is a CR, LF or FF, which clears that flag only at step 5 (R106; log entry 55, DESIGN CHOICE). -/
def State.handleCell (s : State) (id : ImageId) (c : Cell) (sense : Sense) : State :=
  let act := cellAction s.msg.setup.strip c
  if c.lostBefore then
    match s.place id .lost with
    | (s', .goesOn) => s'.actOn id act sense
    | (s', .overflow) => s'.wrap id (carriedWith act) sense
  else s.actOn id act sense

/-- The assembler takes the head cell of PRQ (R102, R103): it opens an image first if it may, and takes nothing without an OPEN
image or while placements are carried. The change of the pool may make a flow code pending, which goes out from CARRIER
(R31). -/
def State.takePrq (s : State) (sense : Sense) : State :=
  let s0 := s.openImage
  match s0.asm.openId with
  | none => s0
  | some id =>
    if s0.asm.carried.isEmpty then
      match s0.takeCell .prq with
      | none => s0
      | some (cell, s1) =>
        ((s1.setAsm { s1.asm with flushTimer := s1.flushEnd }).handleCell id cell sense).arrival
    else s0

/-- The idle flush (R114): an OPEN image that holds a glyph closes; an empty one stays OPEN and the timer stops. -/
def State.idleFlush (s : State) (sense : Sense) : State :=
  let s0 := s.setAsm { s.asm with flushTimer := none }
  match s0.asm.openId with
  | none => s0
  | some id => if (s0.asm.image id).isEmpty then s0 else s0.closeImage id 0 sense

end Sys2Proof.Machine
end

