-- ==== Sys2Proof/Machine/Operands.lean ====
section
/-! DEFINITION. The operand forms of the messages the part takes (R174, R189, R195): character formats, routing settings, the
setup record, currents, and the parts of a message. -/

namespace Sys2Proof.Machine

/-! ## Character formats (CALL, R62, R195) -/

/-- The rate of a code. -/
def rateOf (c : Byte) : Option Rate :=
  match c.toNat with
  | 0 => some .b110
  | 1 => some .b150
  | 2 => some .b300
  | _ => none

/-- The data format of a code. -/
def dataOf (c : Byte) : Option DataFormat :=
  match c.toNat with
  | 0 => some .seven
  | 1 => some .sevenEven
  | 2 => some .sevenOdd
  | 3 => some .sevenMark
  | 4 => some .sevenSpace
  | 5 => some .eight
  | _ => none

/-- The stop bits of a code. -/
def stopOf (c : Byte) : Option StopBits :=
  match c.toNat with
  | 1 => some .one
  | 2 => some .two
  | _ => none

/-- The character format that three codes name, none where R62 does not allow it. -/
def formatOf (args : List Byte) : Option Format :=
  match args with
  | [r, d, s] =>
    match rateOf r, dataOf d, stopOf s with
    | some r, some d, some s => some { rate := r, data := d, stop := s }
    | _, _, _ => none
  | _ => none

/-! ## Routing settings (R18, R19, R195) -/

/-- The duplex of a code. -/
def duplexOf (n : Nat) : Option Duplex :=
  match n with
  | 0 => some .full
  | 1 => some .half
  | _ => none

/-- The keyboard target of a code. -/
def targetOf (n : Nat) : Option KeyTarget :=
  match n with
  | 0 => some .line
  | 1 => some .controller
  | 2 => some .both
  | _ => none

/-- The receive copy of a code. -/
def copyOf (n : Nat) : Option ReceiveCopy :=
  match n with
  | 0 => some .print
  | 1 => some .controller
  | 2 => some .both
  | _ => none

/-- The send echo of a code. -/
def echoOf (n : Nat) : Option Bool :=
  match n with
  | 0 => some false
  | 1 => some true
  | _ => none

/-- The routing settings of a ROUTING body, none where a value lies outside its set (R19). -/
def routingOf (body : List Byte) : Option Routing :=
  match body with
  | [d, t, c, e] =>
    match duplexOf d.toNat, targetOf t.toNat, copyOf c.toNat, echoOf e.toNat with
    | some d, some t, some c, some e => some { duplex := d, target := t, copy := c, echo := e }
    | _, _, _, _ => none
  | _ => none

/-! ## The setup record (R189, R195) -/

/-- A character of a body, by number. -/
def charAt (body : List Byte) (i : Nat) : Byte := (body[i]?).getD 0

/-- A two-character value of a body (R195). -/
def wordAt (body : List Byte) (i : Nat) : Nat := wordOf (charAt body i) (charAt body (i + 1))

/-- A field taken into the record, with whether its value had to be changed (R189). -/
structure Taken (α : Type) where
  val : α
  adjusted : Bool

/-- A number brought to the nearest bound of its range (R189). -/
def takeRange (lo hi n : Nat) : Taken Nat := { val := clampTo lo hi n, adjusted := decide (clampTo lo hi n ≠ n) }

/-- The form length: 0 or 20 to 132; 1 to 19 give 20 (R189). -/
def takeForm (n : Nat) : Taken Nat := if n = 0 then { val := 0, adjusted := false } else takeRange 20 132 n

/-- A value of a set of codes, or its default for an undefined code (R189). -/
def takeCode {α : Type} (o : Option α) (default_ : α) : Taken α :=
  match o with
  | some v => { val := v, adjusted := false }
  | none => { val := default_, adjusted := true }

/-- The free value for a controller address of 16 to 255, kept within 1 to 14 (log entry 4). -/
def controllerFree (value : Byte) (sender : Addr) : Addr :=
  BitVec.ofNat 4 (1 + Config.controllerAbove15 value sender % 14)

/-- The controller address (R189): 0 means the sender; the own address or 15 gives the sender, ADJUSTED; R189 is silent on 16 to
255 (log entry 4), and on a sender of 0 or 15, which is taken as it is (log entry 52). -/
def takeController (value : Byte) (own sender : Addr) : Taken Addr :=
  if value = 0 then { val := sender, adjusted := false }
  else if 16 ≤ value.toNat then { val := controllerFree value sender, adjusted := true }
  else if value.toNat = own.toNat ∨ value = 15 then { val := sender, adjusted := true }
  else { val := BitVec.ofNat 4 value.toNat, adjusted := false }

/-- The routing of a kind of notice by its two bits; the undefined code 3 gives the kind's default (R187, R189). -/
def takeRoute (code : Nat) (kind : NoticeKind) : Taken NoticeRoute :=
  match code with
  | 0 => { val := .off, adjusted := false }
  | 1 => { val := .controller, adjusted := false }
  | 2 => { val := .all, adjusted := false }
  | _ => { val := kind.defaultRoute, adjusted := true }

/-- The ten kinds of notice in notice-code order (R195). -/
def noticeKinds : List NoticeKind :=
  [.carrierUp, .carrierDown, .handset, .printHeld, .printResumed, .flow, .breakReceived, .loopResult, .keyLost, .budget]

/-- The two bits of kind number `i` (from 0) in characters 18 to 20 (R195). -/
def routeBits (body : List Byte) (i : Nat) : Nat := (charAt body (18 + i / 4)).toNat / 4 ^ (i % 4) % 4

/-- The notice routing of a SETUP body (R189, R195). -/
def takeRoutes (body : List Byte) : List (Taken NoticeRoute) :=
  noticeKinds.zipIdx.map fun k => takeRoute (routeBits body k.2) k.1

/-- The record that a SETUP body of 22 characters gives, and whether a value had to be changed (R189). The low mark is brought
into range first and the high mark is judged against the result. -/
def setupOf (body : List Byte) (own sender : Addr) : Setup × Bool :=
  let options := charAt body 8
  let defaults := (charAt body 21).toNat
  let controller := takeController (charAt body 0) own sender
  let ohms := takeRange 100 400 (wordAt body 1)
  let ceiling := takeRange 300 3000 (10 * wordAt body 3)
  let motor := takeRange 100 800 (10 * (charAt body 5).toNat)
  let darkness := takeRange 0 7 (charAt body 6).toNat
  let form := takeForm (charAt body 7).toNat
  let flush := takeRange 0 9 (charAt body 9).toNat
  let delay := takeRange 250 1000 (50 * (charAt body 10).toNat)
  let rate := takeRange 5 30 (charAt body 11).toNat
  let low := takeRange 4 24 (charAt body 14).toNat
  let high := takeRange (low.val + 8) 48 (charAt body 15).toNat
  let wait := takeRange 10 60 (charAt body 16).toNat
  let fade := takeRange 100 1000 (10 * (charAt body 17).toNat)
  let routes := takeRoutes body
  let target := takeCode (targetOf (defaults / 2 % 4)) KeyTarget.line
  let copy := takeCode (copyOf (defaults / 8 % 4)) ReceiveCopy.print
  ({ controller := controller.val, dotOhms := ohms.val, ceiling := ceiling.val, motor := motor.val, darkness := darkness.val,
     formLength := form.val, truncate := options.getLsbD 0, strip := options.getLsbD 1, flushSeconds := flush.val,
     repeatDelay := delay.val, repeatRate := rate.val, click := options.getLsbD 2, flowEnable := options.getLsbD 3,
     stopCode := charAt body 12, goCode := charAt body 13, lowMark := low.val, highMark := high.val,
     loud := options.getLsbD 4, carrierWait := wait.val, fadeLimit := fade.val, routes := routes.map Taken.val,
     routing := { duplex := if defaults % 2 = 1 then .half else .full, target := target.val, copy := copy.val,
                  echo := decide (defaults / 32 % 2 = 1) } },
   controller.adjusted || ohms.adjusted || ceiling.adjusted || motor.adjusted || darkness.adjusted || form.adjusted
     || flush.adjusted || delay.adjusted || rate.adjusted || low.adjusted || high.adjusted || wait.adjusted || fade.adjusted
     || routes.any Taken.adjusted || target.adjusted || copy.adjusted)

/-! ## Broadcasts (R156, R158, R184, R195) -/

/-- A current on the wire in mA: above 5000 it is taken as 5000 (R184). -/
def currentOf (lo hi : Byte) : Nat := min Config.maxCurrent (10 * wordOf lo hi)

/-- The battery state of a code (R156). -/
def batteryOf (c : Byte) : Option Battery :=
  match c.toNat with
  | 0 => some .normal
  | 1 => some .low
  | 2 => some .critical
  | _ => none

/-- What an ALLOWANCE body carries; none for a length other than 3 or a battery state outside the three (R156, R184). -/
def allowanceOf (body : List Byte) : Option (Nat × Battery) :=
  match body with
  | [lo, hi, b] => (batteryOf b).map fun st => (currentOf lo hi, st)
  | _ => none

/-- What a CLAIM body carries; none for a length other than 2 (R158, R184). -/
def claimOf (body : List Byte) : Option Nat :=
  match body with
  | [lo, hi] => some (currentOf lo hi)
  | _ => none

/-! ## A message (R174) -/

/-- The destination a head names. -/
def headDest (head : Byte) : Addr := BitVec.ofNat 4 (head.toNat / 16)

/-- The source a head names. -/
def headSource (head : Byte) : Addr := BitVec.ofNat 4 head.toNat

/-- The head of a destination and a source. -/
def headOf (dest src : Addr) : Byte := BitVec.ofNat 8 (16 * dest.toNat + src.toNat)

/-- The check that makes the sum of the characters 0 modulo 256. -/
def checkOf (bytes : List Byte) : Byte := 0 - byteSum bytes

/-- A whole message. -/
def messageOf (dest src : Addr) (kind : Byte) (body : List Byte) : List Byte :=
  let front := [headOf dest src, kind, BitVec.ofNat 8 body.length] ++ body
  front ++ [checkOf front]

/-- The characters are a complete, valid message (R174, R175). -/
def messageValid (bytes : List Byte) : Bool :=
  match bytes with
  | _ :: _ :: len :: _ => decide (len.toNat ≤ Config.maxBody) && decide (bytes.length = len.toNat + 4) && byteSum bytes = 0
  | _ => false

end Sys2Proof.Machine
end

