-- ==== Sys2Proof/Machine/CallOps.lean ====
section
/-! DEFINITION. The Call Controller (chapter 5): the cups, the course of a call, the loop test state, the call requests. -/

namespace Sys2Proof.Machine

/-- READY or IDLE by the cups (R93, R94, R97). -/
def restState (seated : Bool) : CallState := if seated then .ready else .idle

/-! ## Dropping -/

/-- Entry to DROPPING with a cause, as one step (R94, R32). -/
def State.enterDropping (s : State) (cause : DropCause) : State :=
  let s1 := (s.silence.demodStop).setCall { s.call with
    st := .dropping, muted := false, breakInProgress := false, carrierWait := none, fade := none, unseat := none,
    dropCause := some cause, silence := some (s.now + Config.silenceTime) }
  let s2 := s1.discardChain .txq
  (s2.setRouter { s2.router with flow := .clear, inFlight := none, remoteStopped := false }).askNotice
    (.carrierDown cause s.call.st)

/-- The silence ends (R94). -/
def State.silenceEnd (s : State) : State := s.setCall { s.call with st := restState s.call.seated, silence := none }

/-! ## Carrier -/

/-- The carrier is qualified and the call enters ONLINE (R83). -/
def State.enterOnline (s : State) : State :=
  let s1 := s.setCall { s.call with st := .online, carrierWait := none, fade := none }
  let s2 := if s.call.st = .origWait then s1.startCarrier else s1
  let s3 := s2.samplerStart.evaluateFlow
  (match s.call.params with
    | some p => s3.askNotice (.carrierUp p)
    | none => s3).arrival

/-- Entry to FADING: the sampler stops, and a character in assembly is discarded and reported (R70, R84). -/
def State.enterFading (s : State) : State :=
  let s1 := if s.demod.sampler.assembling then s.reportDiscard else s
  s1.samplerStop.setCall { s1.call with st := .fading }

/-- The return from FADING to ONLINE (R85). -/
def State.carrierReturn (s : State) : State :=
  ((s.setCall { s.call with st := .online, fade := none }).samplerStart.evaluateFlow).arrival

/-- The Call Controller takes a window's verdict (R82 to R85). -/
def State.verdict (s : State) (present : Bool) : State :=
  match s.call.st with
  | .origWait => if s.demod.presentRun = Config.runMax then s.enterOnline else s
  | .ansTone => if s.demod.presentRun = Config.runMax then s.enterOnline else s
  | .online =>
    if present then s.setCall { s.call with fade := none }
    else
      let s1 := if s.demod.absentRun = 1 then
          s.setCall { s.call with fade := some (s.now + s.msg.setup.fadeLimit * 1000) }
        else s
      if s.demod.absentRun = 3 then s1.enterFading else s1
  | .fading => if present && s.demod.presentRun = 3 then s.carrierReturn else s
  | _ => s

/-- The end of a window: its verdict, the run counts, and the next window (R65). -/
def State.windowEnd (s : State) : State :=
  let present := windowPresent s.hearsHigh s.demod.windowCount
  (s.setDemod { s.demod with
    windowCount := 0
    windowTimer := some (s.now + Config.windowPeriod)
    presentRun := if present then min Config.runMax (s.demod.presentRun + 1) else 0
    absentRun := if present then 0 else min Config.runMax (s.demod.absentRun + 1) }).verdict present

/-! ## The cups -/

/-- A HANDSET notice with the present cup-switch state and muted flag (R78). -/
def State.askHandset (s : State) : State := s.askNotice (.handset s.call.seated s.call.muted)

/-- The cups become UNSEATED (R78, R79, R87, R88). -/
def State.unseat (s : State) : State :=
  let s1 := s.setCall { s.call with seated := false, filter := 0 }
  match s.call.st with
  | .idle => s1.askHandset
  | .ready => (s1.setCall { s1.call with st := .idle }).askHandset
  | .loop => s1
  | .origWait => s1.askHandset.enterDropping .handset
  | .ansTone => s1.askHandset.enterDropping .handset
  | .online => (s1.setCall { s1.call with muted := true, unseat := some (s.now + Config.unseatTime) }).askHandset
  | .fading => (s1.setCall { s1.call with muted := true, unseat := some (s.now + Config.unseatTime) }).askHandset
  | .dropping => s1.askHandset

/-- The modulator unmutes, which is a character boundary (R72, R89). -/
def State.unmute (s : State) : State :=
  if s.call.muted then ((s.setCall { s.call with muted := false, unseat := none }).askHandset).arrival else s.askHandset

/-- The cups become SEATED (R78, R79, R89). -/
def State.seat (s : State) : State :=
  let s1 := s.setCall { s.call with seated := true, filter := 0 }
  match s.call.st with
  | .idle => (s1.setCall { s1.call with st := .ready }).askHandset
  | .loop => s1
  | .online => s1.unmute
  | .fading => s1.unmute
  | _ => s1.askHandset

/-- One reading of the cups (R78). -/
def State.readCups (s : State) (a b : Bool) : State :=
  let s1 := s.setPins { s.pins with cupA := a, cupB := b }
  if s.call.seated then
    if a && b then s1 else s1.unseat
  else if a && b then
    if s.call.filter + 1 = Config.seatReadings then s1.seat
    else s1.setCall { s1.call with filter := s.call.filter + 1 }
  else s1.setCall { s1.call with filter := 0 }

/-- The millisecond reading that is due (R78). -/
def State.cupReading (s : State) (a b : Bool) : State :=
  match s.call.cupTimer with
  | none => s
  | some d =>
    let s1 := s.advanceTo d
    (s1.setCall { s1.call with cupTimer := some (s1.now + Config.cupPeriod) }).readCups a b

/-! ## The loop test -/

/-- Entry to LOOP (R75, R76, R92). -/
def State.startLoop (s : State) : State :=
  let s1 := s.setCall { s.call with st := .loop, loopSeated := s.call.seated }
  let s2 := s1.setMod { s1.mod with
    st := .silent, phase := 0, increment := markIncrement .originate, baudAcc := 0, bitSamples := 0, frame := none,
    test := some { started := s.now, bit := 0, samples := 0, phase := 0, due := [], recovered := 0, mismatched := 0 } }
  s2.demodAfresh.samplerStart

/-- The end of LOOP with a result (R93). -/
def State.endLoop (s : State) (sent mismatches : Nat) (aborted : Bool) : State :=
  let s1 := ((s.silence.demodStop).setCall { s.call with st := restState s.call.seated }).askNotice
    (.loopResult sent mismatches aborted)
  if s1.call.seated = s1.call.loopSeated then s1 else s1.askHandset

/-- The loop test is aborted by DROP (R77, R93). -/
def State.abortLoop (s : State) : State :=
  match s.mod.test with
  | some l => s.endLoop (testFramesSent l.bit) l.mismatches true
  | none => s.endLoop 0 32 true

/-! ## The call requests -/

/-- ORIGINATE and ANSWER (R81, R82). -/
def State.placeCall (s : State) (mode : Mode) (args : List Byte) : State × Answer :=
  match s.call.st with
  | .idle => (s, .refused .handsetNotSeated)
  | .loop => (s, .busy .notInState)
  | .dropping => (s, .busy .notInState)
  | .ready =>
    match formatOf args with
    | none => (s, .refused .outOfRange)
    | some f =>
      let st : CallState := match mode with
        | .originate => .origWait
        | .answer => .ansTone
      let s1 := s.setCall { s.call with
        st := st, params := some { mode := mode, fmt := f }, dropCause := none,
        carrierWait := some (s.now + s.msg.setup.carrierWait * 1000000) }
      let s2 := match mode with
        | .originate => s1
        | .answer => s1.startCarrier
      (s2.demodAfresh, .accepted)
  | _ => (s, .refused .callActive)

/-- DROP (R90). -/
def State.dropRule (s : State) : State × Answer :=
  match s.call.st with
  | .origWait => (s.enterDropping .requested, .accepted)
  | .ansTone => (s.enterDropping .requested, .accepted)
  | .online => (s.enterDropping .requested, .accepted)
  | .fading => (s.enterDropping .requested, .accepted)
  | .loop => (s.abortLoop, .accepted)
  | _ => (s, .refused .notInState)

/-- BREAK (R91). -/
def State.breakRule (s : State) : State × Answer :=
  if s.call.st = .online then
    if s.call.breakInProgress then (s, .busy .notInState) else (s.takeBreak, .accepted)
  else (s, .refused .notInState)

/-- The BREAK key (R53, R91). -/
def State.breakKey (s : State) : State :=
  match s.breakRule with
  | (s', .accepted) => s'
  | _ => s.askSound .error

/-- LOOP TEST (R92). -/
def State.loopRule (s : State) : State × Answer :=
  match s.call.st with
  | .idle => (s.startLoop, .accepted)
  | .ready => (s.startLoop, .accepted)
  | .loop => (s, .busy .notInState)
  | .dropping => (s, .busy .notInState)
  | _ => (s, .refused .callActive)

/-! ## Restart -/

/-- RESTART ends any call at once (R97); TXQ is discarded with the pool's other chains. -/
def Call.restarted (c : Call) : Call :=
  { c with st := restState c.seated, params := none, muted := false, breakInProgress := false, carrierWait := none,
           fade := none, unseat := none, silence := none, dropCause := none }

end Sys2Proof.Machine
end

