-- ==== Sys2Proof/Machine/Layout.lean ====
section
/-! DEFINITION. The bodies of the messages the part sends (R195), and the bits of a message on the wire (R173). -/

namespace Sys2Proof.Machine

/-! ## Codes (R195) -/

def Rate.code : Rate → Byte
  | .b110 => 0
  | .b150 => 1
  | .b300 => 2

def DataFormat.code : DataFormat → Byte
  | .seven => 0
  | .sevenEven => 1
  | .sevenOdd => 2
  | .sevenMark => 3
  | .sevenSpace => 4
  | .eight => 5

def StopBits.code : StopBits → Byte
  | .one => 1
  | .two => 2

def Mode.code : Mode → Byte
  | .originate => 0
  | .answer => 1

def CallState.code : CallState → Byte
  | .idle => 0
  | .ready => 1
  | .loop => 2
  | .origWait => 3
  | .ansTone => 4
  | .online => 5
  | .fading => 6
  | .dropping => 7

def DropCause.code : DropCause → Byte
  | .timeout => 1
  | .fade => 2
  | .handset => 3
  | .requested => 4

def EngineState.code : EngineState → Byte
  | .idle => 0
  | .claiming => 1
  | .printing => 2
  | .held => 3

/-- A hold condition's number, by priority (R144, R195). -/
def Hold.code : Hold → Byte
  | .stopped => 1
  | .headHot => 2
  | .lowVoltage => 3
  | .batteryCritical => 4
  | .doorOpen => 5
  | .paperOut => 6
  | .budget => 7
  | .controllerHold => 8

/-- A recorded cause: its number, 0 for NONE (R195). -/
def causeCode : Option Hold → Byte
  | some h => h.code
  | none => 0

/-- A drop cause: its code, 0 for none (R195). -/
def dropCode : Option DropCause → Byte
  | some c => c.code
  | none => 0

def Step.code : Step → Byte
  | .none => 0
  | .line _ => 1
  | .dot => 2

def FlowState.code : FlowState → Byte
  | .clear => 0
  | .pendingStop => 1
  | .stopped => 2
  | .pendingGo => 3

def FlowEvent.code : FlowEvent → Byte
  | .stopSent => 0
  | .goSent => 1
  | .stopReceived => 2
  | .goReceived => 3

def ImageState.code : ImageState → Byte
  | .free => 0
  | .opened => 1
  | .waiting => 2
  | .printing => 3

def BatteryInUse.code : BatteryInUse → Byte
  | .normal => 0
  | .low => 1
  | .critical => 2
  | .unknown => 3

def Raise.code : Raise → Byte
  | .none => 0
  | .asking _ => 1
  | .settling _ => 2

def BudgetCause.code : BudgetCause → Byte
  | .settle => 0
  | .lower => 1
  | .park => 2
  | .doze => 3

def Duplex.code : Duplex → Byte
  | .full => 0
  | .half => 1

def KeyTarget.code : KeyTarget → Byte
  | .line => 0
  | .controller => 1
  | .both => 2

def ReceiveCopy.code : ReceiveCopy → Byte
  | .print => 0
  | .controller => 1
  | .both => 2

def KeyEvent.code : KeyEvent → Byte
  | .down => 0
  | .up => 1
  | .again => 2

/-- The operating state: 0 START, 1 RUN (R195); no STATUS is filled in DOZE, since a request wakes the part first. -/
def OpState.code : OpState → Byte
  | .start => 0
  | .run => 1
  | .doze => 1

/-- A flag as a bit of a character (R195). -/
def flagBit (b : Bool) (n : Nat) : Byte := if b then 1#8 <<< n else 0

/-- A set of conditions: bit k − 1 for condition k (R195). -/
def HoldSet.code (h : HoldSet) : Byte :=
  flagBit h.stopped 0 ||| flagBit h.headHot 1 ||| flagBit h.lowVoltage 2 ||| flagBit h.batteryCritical 3 ||| flagBit h.doorOpen 4
    ||| flagBit h.paperOut 5 ||| flagBit h.budget 6 ||| flagBit h.controllerHold 7

/-- The bits of a character that R195 names no use for, by their mask (log entry 2). -/
def spare (kind index : Nat) (mask : Byte) : Byte := Config.spareBits kind index &&& mask

/-- A value in mA as two characters in units of 10 mA (R195). -/
def tens (mA : Nat) : List Byte := [lowByte (mA / 10), highByte (mA / 10)]

/-- A value as two characters (R195). -/
def twoBytes (n : Nat) : List Byte := [lowByte n, highByte n]

/-! ## Kinds -/

def kindPresent : Byte := 0x01
def kindAllowance : Byte := 0x02
def kindClaim : Byte := 0x03
def kindSetup : Byte := 0x10
def kindPrintText : Byte := 0x11
def kindSendText : Byte := 0x12
def kindCall : Byte := 0x13
def kindPrintControl : Byte := 0x14
def kindRouting : Byte := 0x15
def kindStatusQuery : Byte := 0x16
def kindDoze : Byte := 0x17
def kindRestart : Byte := 0x18
def kindRawDotLine : Byte := 0x19
def kindReply : Byte := 0x20
def kindKeys : Byte := 0x21
def kindText : Byte := 0x22
def kindNotice : Byte := 0x23
def kindStatus : Byte := 0x24

/-! ## Bodies -/

/-- The outcome code of an answer (R195). -/
def Answer.outcome : Answer → Byte
  | .accepted => 0
  | .adjusted => 1
  | .busy _ => 2
  | .refused _ => 3

/-- The code of a reason (R195). -/
def Reason.code : Reason → Byte
  | .none => 0
  | .notInState => 1
  | .offline => 2
  | .noRoom => 3
  | .outOfRange => 4
  | .unknownKind => 5
  | .badLength => 6
  | .setupClosed => 7
  | .handsetNotSeated => 8
  | .callActive => 9

/-- The reason of an answer: NONE for ACCEPTED and ADJUSTED (R185). -/
def Answer.reason : Answer → Reason
  | .accepted => .none
  | .adjusted => .none
  | .busy r => r
  | .refused r => r

/-- A REPLY's body. -/
def replyBody (kind : Byte) (a : Answer) : List Byte := [kind, a.outcome, a.reason.code]

/-- The three characters of record number `i` of a KEYS body. -/
def keyRecordChars (i : Nat) (r : KeyRecord) : List Byte :=
  [BitVec.ofNat 8 r.pos,
   r.event.code ||| flagBit r.shift 2 ||| flagBit r.ctrl 3 ||| flagBit r.caps 4 ||| flagBit r.lostBefore 5
     ||| spare 0x21 (3 * i + 1) 0xC0,
   codeOrNone r.code]

/-- A KEYS body. -/
def keysBody (rs : List KeyRecord) : List Byte := rs.zipIdx.flatMap fun r => keyRecordChars r.2 r.1

/-- The two characters of cell number `i` of a RECEIVED TEXT body. -/
def textCellChars (i : Nat) (c : Cell) : List Byte :=
  [c.code,
   flagBit c.parity 0 ||| flagBit c.framing 1 ||| flagBit c.noise 2 ||| flagBit c.lostBefore 3 ||| flagBit c.lineBreak 4
     ||| spare 0x22 (2 * i + 1) 0xE0]

/-- A RECEIVED TEXT body. -/
def textBody (cs : List Cell) : List Byte := cs.zipIdx.flatMap fun c => textCellChars c.2 c.1

/-- The detail of a notice (R187, R195). -/
def Notice.detail : Notice → List Byte
  | .carrierUp p => [p.mode.code, p.fmt.rate.code, p.fmt.data.code, p.fmt.stop.code]
  | .carrierDown c left => [c.code, left.code]
  | .handset seated muted => [flagBit seated 0, flagBit muted 0]
  | .printHeld c h n => [c.code, h.code, n]
  | .printResumed n st => [n, st.code]
  | .flow e => [e.code]
  | .breakReceived n => [BitVec.ofNat 8 n]
  | .loopResult sent bad aborted => [BitVec.ofNat 8 sent, BitVec.ofNat 8 bad, flagBit aborted 0]
  | .keyLost => []
  | .budget granted available c => tens granted ++ twoBytes available ++ [c.code]

/-- A NOTICE body. -/
def noticeBody (n : Notice) : List Byte := BitVec.ofNat 8 n.kind.code :: n.detail

/-- A CLAIM body. -/
def claimBody (mA : Nat) : List Byte := tens mA

/-- The PRESENT body that the part sends (R190, R195). -/
def presentBody : List Byte := [Config.stationKind, Config.revision]

/-- Characters 9 to 12 of STATUS: the flags of the call, and the call parameters; without parameters R195 gives the mode bit and
characters 10 to 12 no code (log entry 3). -/
def Call.statusChars (c : Call) : List Byte :=
  let flags := flagBit c.breakInProgress 0 ||| (dropCode c.dropCause <<< 2) ||| spare 0x24 9 0xC0
  match c.params with
  | some p => [flags ||| (p.mode.code <<< 1) ||| flagBit true 5, p.fmt.rate.code, p.fmt.data.code, p.fmt.stop.code]
  | none =>
    [flags ||| (Config.absentParams 9 &&& 0x02), Config.absentParams 10, Config.absentParams 11, Config.absentParams 12]

/-- A STATUS body with the figures as they stand (R137, R171, R188, R195). -/
def State.statusBody (s : State) : List Byte :=
  [s.msg.op.code,
   flagBit s.line.listenOnly 0 ||| flagBit s.router.localMode 1 ||| flagBit s.kbd.caps 2 ||| flagBit s.router.remoteStopped 3
     ||| flagBit s.pool.prqLost 4 ||| flagBit s.pool.fwqLost 5 ||| flagBit s.call.seated 6 ||| flagBit s.call.muted 7,
   BitVec.ofNat 8 s.pool.free.length, BitVec.ofNat 8 s.pool.txq.length, BitVec.ofNat 8 s.pool.prq.length,
   BitVec.ofNat 8 s.pool.fwq.length,
   s.router.routing.duplex.code ||| (s.router.routing.target.code <<< 1) ||| (s.router.routing.copy.code <<< 3)
     ||| flagBit s.router.routing.echo 5 ||| (s.router.flow.code <<< 6),
   BitVec.ofNat 8 s.kbd.fifo.length, s.call.st.code]
  ++ s.call.statusChars
  ++ [s.asm.image1.st.code ||| (s.asm.image2.st.code <<< 2) ||| spare 0x24 13 0xF0,
      BitVec.ofNat 8 s.asm.formPosition,
      s.eng.st.code ||| (s.eng.step.code <<< 2) ||| spare 0x24 15 0xF0,
      s.eng.holds.code, causeCode s.eng.cause, s.eng.holdCount, s.eng.vc, s.eng.tc, BitVec.ofNat 8 s.eng.dotCurrent]
  ++ twoBytes s.eng.lastHeat
  ++ [BitVec.ofNat 8 s.eng.lastBursts]
  ++ tens s.bud.allowance
  ++ [s.bud.battery.code ||| flagBit s.bud.recordFresh 2 ||| (s.bud.raise.code <<< 4) ||| spare 0x24 27 0xC8,
      BitVec.ofNat 8 s.bud.table.length]
  ++ tens s.bud.tableSum
  ++ [BitVec.ofNat 8 s.fixedLoad]
  ++ twoBytes s.available
  ++ tens s.desired ++ tens s.bud.own ++ tens s.bud.completed ++ tens s.bud.granted

/-! ## Bits on the wire (R173) -/

/-- The eleven bits of a character, true for 1: start, data least significant first, marker, stop. -/
def charBits (marker : Bool) (c : Byte) : List Bool :=
  [false] ++ (List.range 8).map (fun i => c.getLsbD i) ++ [marker, true]

/-- The bits of a message: its first character alone has the marker (R174). -/
def messageBits : List Byte → List Bool
  | [] => []
  | head :: rest => charBits true head ++ rest.flatMap (charBits false)

/-- How many bits at the end of a list are equal to a level. -/
def runAtEnd (level : Bool) (bits : List Bool) : Nat := (bits.reverse.takeWhile (· = level)).length

end Sys2Proof.Machine
end

