-- ==== Sys2Proof/Machine/LineOps.lean ====
section
/-! DEFINITION. The Line Interface (chapter 10): the receiver bit by bit, the wait, the attempts and their outcomes, and entry to
listen-only. -/

namespace Sys2Proof.Machine

/-- The length of a bit on the party line in µs (R172). -/
def Line.bit (l : Line) : Nat := bitTime l.fast

/-- PLINE: the part drives the wire low, by the bit of its attempt at the present moment (R172, R179). -/
def State.plineLow (s : State) : Bool :=
  match s.line.attempt with
  | some a => (messageBits a.bytes)[(s.now - a.started) / s.line.bit]? = some false
  | none => false

/-! ## The receiver (R173, R175, R176) -/

/-- The head test of a marker character (R175). -/
def Line.headTest (l : Line) (head : Byte) : MessageState :=
  if headSource head = l.addr then .taking .conflict [head]
  else if headDest head = l.addr ∨ headDest head = 0 then .taking .delivery [head]
  else .waiting

/-- The head test in DOZE, where every message for another destination, a broadcast included, is passed over (R194). -/
def Line.dozeHeadTest (l : Line) (head : Byte) : MessageState :=
  if headDest head = l.addr then l.headTest head else .waiting

/-- The head test in the part's state. -/
def Line.testHead (l : Line) (doze : Bool) (head : Byte) : MessageState :=
  if doze then l.dozeHeadTest head else l.headTest head

/-- What the receiver has come to: its line, and the events found with their moments, oldest first. -/
structure Hearing where
  line : Line
  events : List (Nat × WireEvent)
  deriving DecidableEq, Repr

/-- An event is found. -/
def Hearing.note (h : Hearing) (t : Nat) (e : WireEvent) : Hearing := { h with events := h.events ++ [(t, e)] }

/-- The message in progress is over; one that was being taken is reported with its outcome. -/
def Hearing.drop (h : Hearing) (t : Nat) (e : WireEvent) : Hearing :=
  let w := { h with line := { h.line with message := .waiting } }
  match h.line.message with
  | .waiting => w
  | .taking _ _ => w.note t e

/-- A complete marker character begins a new message, in either message state (R175, R176, R194). -/
def Hearing.takeMarker (h : Hearing) (doze : Bool) (t : Nat) (head : Byte) : Hearing :=
  let w := if doze then h.note t (.marker head) else h.drop t (.rejected (.newMarker head))
  { w with line := { w.line with message := w.line.testHead doze head } }

/-- A complete character without the marker: ignored in WAITING, and in TAKING the next character of the message, whose length and
check are judged as they complete (R174, R175, R176). -/
def Hearing.takeNext (h : Hearing) (t : Nat) (c : Byte) : Hearing :=
  match h.line.message with
  | .waiting => h
  | .taking purpose soFar =>
    let bytes := soFar ++ [c]
    match bytes[2]? with
    | none => { h with line := { h.line with message := .taking purpose bytes } }
    | some len =>
      if Config.maxBody < len.toNat then h.drop t (.rejected .badLength)
      else if bytes.length = len.toNat + 4 then
        h.drop t (if byteSum bytes = 0 then .complete purpose bytes else .rejected .badCheck)
      else { h with line := { h.line with message := .taking purpose bytes } }

/-- The code of the eleven bits of a character, its data bits least significant first (R173). -/
def codeRead (bits : List Bool) : Byte := BitVec.ofNat 8 (codeOfBits ((bits.drop 1).take 8))

/-- The next bit of the character being read (R173): a start bit of 1 is a false start; a stop bit of 1 completes the character,
and one of 0 is a framing error. -/
def Hearing.readBit (h : Hearing) (doze : Bool) (t : Nat) (edge : Nat) (bits : List Bool) (high : Bool) : Hearing :=
  let read := bits ++ [high]
  let chars (c : CharState) : Hearing := { h with line := { h.line with chars := c } }
  if bits = [] ∧ high = true then chars .hunting
  else if read.length < 11 then chars (.reading edge read)
  else if high then
    if read[9]? = some true then (chars .hunting).takeMarker doze t (codeRead read)
    else (chars .hunting).takeNext t (codeRead read)
  else (chars .waitHigh).drop t (.rejected .framing)

/-- The bits whose middle lies up to the moment `till`, at most that many, the wire being at one level (R173): bit k is read k + ½
bit times after the edge. -/
def Hearing.readBits (doze high : Bool) (till : Nat) : Nat → Hearing → Hearing
  | 0, h => h
  | n + 1, h =>
    match h.line.chars with
    | .reading edge bits =>
      let t := edge + bits.length * h.line.bit + h.line.bit / 2
      if t ≤ till then Hearing.readBits doze high till n (h.readBit doze t edge bits high) else h
    | _ => h

/-- A change of level at the moment read up to (R172, R173): the count of the new level starts at 0; a fall is a start edge for a
receiver that looks for one, and a rise lets it look again. -/
def Line.edge (l : Line) (high : Bool) : Line :=
  if high = !l.wireLow then l
  else
    { l with
      wireLow := !high
      wireSince := l.readTo
      chars := match l.chars with
        | .hunting => if high then .hunting else .reading l.readTo []
        | .waitHigh => if high then .hunting else .waitHigh
        | .reading edge bits => .reading edge bits }

/-- The wire becomes idle at 14 bit times of high, which discards a message in progress; at 24 bit times of low a break is
detected, which discards it too (R172, R176). -/
def Hearing.count (h : Hearing) (till : Nat) : Hearing :=
  let l := h.line
  let idle := l.wireSince + 14 * l.bit
  let broken := l.wireSince + 24 * l.bit
  if l.wireLow then
    if l.readTo < broken ∧ broken ≤ till then
      { h with line := { l with chars := .waitHigh, message := .waiting } }.note broken .lineBreak
    else h
  else if l.readTo < idle ∧ idle ≤ till then h.drop idle (.rejected .idleWire)
  else h

/-- The receiver reads a stretch of the wire: its edge, the bits in it, and the count it reaches. A reading that falls on an edge
reads the level before it (log entry 46). -/
def Hearing.run (doze : Bool) (h : Hearing) (r : WireRun) : Hearing :=
  if r.length = 0 then h
  else
    let till := h.line.readTo + r.length
    let h1 := Hearing.readBits doze r.high till 11 { h with line := h.line.edge r.high }
    let h2 := h1.count till
    { h2 with line := { h2.line with readTo := till } }

/-- The receiver reads a wave from where it stands (R173, R175, R176). -/
def Line.hear (l : Line) (doze : Bool) (wave : Wave) : Hearing := wave.foldl (Hearing.run doze) { line := l, events := [] }

/-- The state's receiver reads a wave. -/
def State.hear (s : State) (wave : Wave) : Hearing := s.line.hear (decide (s.msg.op = .doze)) wave

/-- The event that a wave brings, none unless it brings one alone and at its end. While an attempt of the part's own runs the wire
is what the attempt makes it, and a wave brings nothing (log entry 6). -/
def State.heardEvent (s : State) (wave : Wave) : Option WireEvent :=
  let h := s.hear wave
  match s.line.attempt, h.events with
  | none, [(t, e)] => if t = h.line.readTo then some e else none
  | _, _ => none

/-- The wire has been read through a wave, and time has passed to its end. -/
def State.afterWave (s : State) (wave : Wave) : State :=
  let l := (s.hear wave).line
  (s.advanceTo l.readTo).setLine l

/-! ## The setup window (R191) -/

/-- The setup window opens when the PRESENT leaves its slot, or at entry to listen-only if that comes first. -/
def State.openWindow (s : State) : State :=
  match s.msg.window with
  | .waitingPresent =>
    s.setMsg { s.msg with window := .opened, windowTimer := some (s.now + Config.setupWindowTime) }
  | _ => s

/-! ## The slots (R181) -/

/-- The first ready slot, in the transmitter's order; in START the notice slot is left out (R181, R187). -/
def State.readySlot (s : State) : Option Slot :=
  if s.line.claimSlot.isSome then some .claim
  else if !s.line.replies.isEmpty then some .reply
  else if s.msg.op ≠ .start ∧ s.line.notices.isEmpty = false then some .notice
  else if s.line.keysSlot.isSome then some .keys
  else if s.line.textSlot.isSome then some .text
  else if s.line.presentSlot.isSome then some .present
  else none

/-- The message of a slot's head as it stands, none for an empty slot (R180, R195). -/
def Line.slotMessage (l : Line) (slot : Slot) : Option (List Byte) :=
  match slot with
  | .claim => l.claimSlot.map fun c => messageOf 0 l.addr kindClaim (claimBody c.mA)
  | .reply => l.replies.head?.map fun r => messageOf r.dest l.addr r.kind r.body
  | .notice => l.notices.head?.map fun n => messageOf n.dest l.addr kindNotice (noticeBody n.notice)
  | .keys => l.keysSlot.map fun k => messageOf k.dest l.addr kindKeys (keysBody k.records)
  | .text => l.textSlot.map fun t => messageOf t.dest l.addr kindText (textBody t.cells)
  | .present => l.presentSlot.map fun _ => messageOf 0 l.addr kindPresent presentBody

/-- The attempt count of a slot's head rises by one (R180). -/
def Line.countAttempt (l : Line) (slot : Slot) : Line :=
  match slot with
  | .claim => { l with claimSlot := l.claimSlot.map fun c => { c with count := c.count + 1 } }
  | .reply => { l with replies := l.replies.modifyHead fun r => { r with count := r.count + 1 } }
  | .notice => { l with notices := l.notices.modifyHead fun n => { n with count := n.count + 1 } }
  | .keys => { l with keysSlot := l.keysSlot.map fun k => { k with count := k.count + 1 } }
  | .text => { l with textSlot := l.textSlot.map fun t => { t with count := t.count + 1 } }
  | .present => { l with presentSlot := l.presentSlot.map (· + 1) }

/-- The bit times of high wire that the part waits for (R178). -/
def Line.waitBits (l : Line) : Nat := 14 + (if l.retry then 2 * l.addr.toNat else 0)

/-- The wait is over: the wire is high and the idle count has reached the wait; a fall begins it again, and while the wire is low
there is no idle count (R172, R176, R178). -/
def Line.waitOver (l : Line) : Bool := !l.wireLow && decide (l.wireSince + l.waitBits * l.bit ≤ l.readTo)

/-- No wait is made while the part is listen-only or in DOZE, or while an attempt runs (R178). -/
def State.mayStart (s : State) : Bool :=
  s.line.attempt.isNone && !s.line.listenOnly && decide (s.msg.op ≠ .doze)

/-- An attempt on a slot begins with the start bit of its head (R178, R179). -/
def State.startAttempt (s : State) (slot : Slot) (bytes : List Byte) : State :=
  let l := s.line.countAttempt slot
  s.setLine { l with
    attempt := some { slot := slot, bytes := bytes, started := s.now, highSince := l.wireSince }
    chars := .hunting, message := .waiting, wireLow := true, wireSince := s.now }

/-- The end of the wait at the end of a wave that brings nothing else (R178): the first ready slot's message is attempted. -/
def State.endWait (s : State) (wave : Wave) : State :=
  let h := s.hear wave
  if s.mayStart && h.events.isEmpty && h.line.waitOver then
    match s.readySlot with
    | none => s
    | some slot =>
      match s.line.slotMessage slot with
      | none => s
      | some bytes => (s.afterWave wave).startAttempt slot bytes
  else s

/-! ## Outcomes (R180) -/

/-- The copied key records leave the key FIFO (R51). -/
def State.removeKeys (s : State) : State :=
  (s.setKbd { s.kbd with fifo := s.kbd.fifo.drop s.kbd.inMessage, inMessage := 0 }).setLine
    { s.line with keysSlot := none }

/-- The copied cells leave FWQ, each by R9, and a flow code that this makes pending goes out from CARRIER (R10, R31). -/
def State.removeText (s : State) : State :=
  let s1 := s.takeText s.pool.fwqInMessage
  ((s1.setPool { s1.pool with fwqInMessage := 0 }).setLine { s1.line with textSlot := none }).arrival

/-- The PRESENT leaves its slot (R180, R191). -/
def State.removePresent (s : State) : State := (s.setLine { s.line with presentSlot := none }).openWindow

/-- The CLAIM slot once the value it held has gone: the value handed meanwhile, as a fresh message (R182). -/
def ClaimSlot.following (c : ClaimSlot) : Option ClaimSlot := c.next.map fun v => { mA := v, count := 0, next := none }

/-- The CLAIM completes (R161, R182). -/
def State.claimSent (s : State) : State :=
  match s.line.claimSlot with
  | none => s
  | some c => (s.setLine { s.line with claimSlot := c.following }).claimCompleted c.mA c.next.isNone

/-- The head notice completes: one changed meanwhile stays as a fresh message, a BREAK-RECEIVED with the breaks counted since
the attempt began (R180, R187). -/
def noticesSent : List NoticeEntry → List NoticeEntry
  | [] => []
  | e :: rest =>
    if e.changed then
      let n := match e.notice with
        | .breakReceived _ => .breakReceived e.since
        | n => n
      { e with notice := n, count := 0, changed := false, since := 0 } :: rest
    else rest

/-- A message completes and its owner is told (R180). -/
def State.messageSent (s : State) (slot : Slot) : State :=
  match slot with
  | .claim => s.claimSent
  | .reply => s.setLine { s.line with replies := s.line.replies.tail }
  | .notice => s.setLine { s.line with notices := noticesSent s.line.notices }
  | .keys => s.removeKeys
  | .text => s.removeText
  | .present => s.removePresent

/-- The CLAIM slot after an attempt that failed (R180, R182). -/
def State.claimFailed (s : State) : State :=
  match s.line.claimSlot with
  | none => s
  | some c =>
    if c.next.isSome then s.setLine { s.line with claimSlot := c.following }
    else if Config.maxAttempts ≤ c.count then (s.setLine { s.line with claimSlot := none }).claimDiscarded c.mA
    else s

/-- The notice queue after an attempt that failed: a changed head starts afresh, one with 16 attempts is discarded (R180). -/
def noticesFailed : List NoticeEntry → List NoticeEntry
  | [] => []
  | e :: rest =>
    if e.changed then { e with count := 0, changed := false, since := 0 } :: rest
    else if Config.maxAttempts ≤ e.count then rest
    else e :: rest

/-- The reply queue after an attempt that failed (R180, R186). -/
def repliesFailed : List ReplyEntry → List ReplyEntry
  | [] => []
  | r :: rest => if Config.maxAttempts ≤ r.count then rest else r :: rest

/-- A message after an attempt that failed: kept, or discarded after 16 attempts, its owner being told (R180). -/
def State.messageFailed (s : State) (slot : Slot) : State :=
  match slot with
  | .claim => s.claimFailed
  | .reply => s.setLine { s.line with replies := repliesFailed s.line.replies }
  | .notice => s.setLine { s.line with notices := noticesFailed s.line.notices }
  | .keys =>
    match s.line.keysSlot with
    | some k => if Config.maxAttempts ≤ k.count then s.removeKeys else s
    | none => s
  | .text =>
    match s.line.textSlot with
    | some t => if Config.maxAttempts ≤ t.count then s.removeText else s
    | none => s
  | .present =>
    match s.line.presentSlot with
    | some n => if Config.maxAttempts ≤ n then s.removePresent else s
    | none => s

/-- The attempt completes at the middle of the check's stop bit (R179): the retry flag is cleared, and the wire has been high
since the ones at the message's end. -/
def State.attemptDone (s : State) (a : Attempt) : State :=
  let bt := s.line.bit
  let bits := messageBits a.bytes
  let ends := a.started + bits.length * bt - bt / 2
  let s1 := s.advanceTo ends
  (s1.setLine { s1.line with
    attempt := none, retry := false, chars := .hunting, message := .waiting, readTo := ends, wireLow := false
    wireSince := a.started + (bits.length - runAtEnd true bits) * bt }).messageSent a.slot

/-- What the receiver holds after a loss at a bit (R175, R179): the bits it has read are the winner's. A loss at a stop bit is a
framing error; a loss behind the head puts the head, whose source is the part's own address, to the head test at once. -/
def Line.afterLoss (l : Line) (doze : Bool) (a : Attempt) (bit : Nat) : Line :=
  let sent := (messageBits a.bytes).take bit
  let first := bit / 11 * 11
  let l1 := { l with
    readTo := a.started + bit * l.bit + l.bit / 2
    wireLow := true
    wireSince := a.started + (bit - runAtEnd false sent) * l.bit }
  if bit % 11 = 10 then { l1 with chars := .waitHigh, message := .waiting }
  else
    { l1 with
      chars := .reading (a.started + first * l.bit) (sent.drop first ++ [false])
      message :=
        if bit < 11 then .waiting
        else match l.testHead doze (charAt a.bytes 0) with
          | .waiting => .waiting
          | .taking purpose _ => .taking purpose (a.bytes.take (bit / 11)) }

/-- The attempt is lost at a bit that the part released (R179). -/
def State.attemptFailsLost (s : State) (a : Attempt) (bit : Nat) : State :=
  let s1 := s.advanceTo (a.started + bit * s.line.bit + s.line.bit / 2)
  let l := s1.line.afterLoss (decide (s1.msg.op = .doze)) a bit
  (s1.setLine { l with attempt := none, retry := true }).messageFailed a.slot

/-- The attempt ends with a line fault at a bit that the part drove low (R179): the wire is read high there, since the end of the
last bit read low, or, where none was, since before the attempt. -/
def State.attemptFailsFault (s : State) (a : Attempt) (bit : Nat) : State :=
  let bt := s.line.bit
  let before := (messageBits a.bytes).take bit
  let ends := a.started + bit * bt + bt / 2
  let s1 := s.advanceTo ends
  (s1.setLine { s1.line with
    attempt := none, retry := true, chars := .hunting, message := .waiting, readTo := ends, wireLow := false
    wireSince := if before.contains false then a.started + (bit - runAtEnd true before) * bt else a.highSince }).messageFailed
      a.slot

/-! ## Messages named by their kind -/

/-- A message of another station that the receiver has taken completes at `t`, the middle of its check's stop bit: the receiver is
WAITING again, and the wire has been high since that stop bit began, the check's marker being 0 (R173, R175). -/
def State.heard (s : State) (t : Nat) : State :=
  let s1 := s.advanceTo t
  s1.setLine { s1.line with
    chars := .hunting, message := .waiting, readTo := s1.now, wireLow := false, wireSince := s1.now - s1.line.bit / 2 }

/-! ## Listen-only -/

/-- The key FIFO emptied (R51). -/
def Keyboard.emptyFifo (k : Keyboard) : Keyboard := { k with fifo := [], inMessage := 0, keyLost := false }

/-- The Line Interface at entry to listen-only: the flag is set and every slot is emptied (R177). -/
def Line.silenced (l : Line) : Line :=
  { l with listenOnly := true, claimSlot := none, replies := [], notices := [], keysSlot := none, textSlot := none,
           presentSlot := none, attempt := none }

/-- The gathers stopped, with their flags cleared (R177, R183). -/
def MessageUnit.stopGathers (m : MessageUnit) : MessageUnit :=
  { m with keysTimer := none, keysDue := false, textTimer := none, textDue := false }

/-- The Budget Unit at entry to listen-only (R169). -/
def Budget.silenced (b : Budget) : Budget :=
  { b.abandonRaise with own := 0, granted := 0, restateTimer := none, parkTimer := none, barrierTimer := none }

/-- Entry to listen-only, as one step (R177); a second conflict changes nothing. -/
def State.enterListenOnly (s : State) (sense : Sense) : State :=
  if s.line.listenOnly then s
  else
    let s1 := ((s.setLine s.line.silenced).setMsg { s.msg.stopGathers with presentTimer := none }).openWindow
    let s2 := ((s1.setKbd s1.kbd.emptyFifo).setBud s1.bud.silenced).discardChain .fwq
    (s2.engineListenOnly sense).arrival

end Sys2Proof.Machine
end

