-- ==== Sys2Proof/Machine/MessageOps.lean ====
section
/-! DEFINITION. The Message Unit (chapter 11) with the gathers (R183): the test of a request and its reply, SETUP, STATUS, DOZE and
wake, RESTART, and the delivery of a message by kind. -/

namespace Sys2Proof.Machine

/-! ## The gathers (R183) -/

/-- The unsent records of the key FIFO. -/
def State.keysUnsent (s : State) : Nat := s.kbd.fifo.length - s.kbd.inMessage

/-- The gathers run in RUN while the part is not listen-only. -/
def State.gathers (s : State) : Bool := decide (s.msg.op = .run) && !s.line.listenOnly

/-- A due KEYS gather builds its message once the in-message count is 0 (R51, R183). -/
def State.buildKeys (s : State) : State :=
  if s.msg.keysDue && s.kbd.inMessage = 0 && decide (0 < s.keysUnsent) then
    let rs := s.kbd.fifo.take Config.keysPerMessage
    let s1 := (s.setKbd { s.kbd with inMessage := rs.length }).setLine
      { s.line with keysSlot := some { dest := s.msg.setup.controller, records := rs, count := 0 } }
    if s1.keysUnsent = 0 then s1.setMsg { s1.msg with keysTimer := none, keysDue := false } else s1
  else s

/-- The KEYS gather at the end of a step: the timer starts when the unsent records rise from none. -/
def State.keysGather (before s : State) : State :=
  if s.gathers then
    (if before.keysUnsent = 0 ∧ 0 < s.keysUnsent then
      s.setMsg { s.msg with keysTimer := some (s.now + Config.keysGatherTime) }
    else s).buildKeys
  else s

/-- A due RECEIVED TEXT gather builds its message once the in-message count is 0 (R10, R183). -/
def State.buildText (s : State) : State :=
  if s.msg.textDue && s.pool.fwqInMessage = 0 && decide (0 < s.pool.unsentText) then
    let cs := (chainCells s.pool.fwq).take Config.cellsPerMessage
    let s1 := (s.setPool { s.pool with fwqInMessage := cs.length }).setLine
      { s.line with textSlot := some { dest := s.msg.setup.controller, cells := cs, count := 0 } }
    if s1.pool.unsentText = 0 then s1.setMsg { s1.msg with textTimer := none, textDue := false } else s1
  else s

/-- The RECEIVED TEXT gather becomes due at once with 32 or more unsent cells. -/
def State.textDueNow (s : State) : State :=
  if Config.cellsPerMessage ≤ s.pool.unsentText then s.setMsg { s.msg with textDue := true } else s

/-- The RECEIVED TEXT gather at the end of a step. -/
def State.textGather (before s : State) : State :=
  if s.gathers then
    ((if before.pool.unsentText = 0 ∧ 0 < s.pool.unsentText then
      s.setMsg { s.msg with textTimer := some (s.now + Config.textGatherTime) }
    else s).textDueNow).buildText
  else s

/-- What a step ends with: the raise test where one of its inputs has changed (R162), the park timer's condition (R168), and the
gathers (R183). A step that can touch none of these leaves it out. -/
def State.reviewed (before s : State) : State :=
  let s1 := State.budgetReview before s
  let s2 := State.parkReview before s1
  State.textGather before (State.keysGather before s2)

/-- What a command answers. -/
abbrev Answered : Type := Host.Outcome State Fault Refusal

/-- A step that an event makes, with what a step ends with. -/
def State.made (before s : State) : Answered := .next (State.reviewed before s)

/-- The step of a timer's end that touches nothing the review looks at: time passes up to it; while the timer is stopped there is
no such event and nothing changes (log entry 6). -/
def State.atTimer (s : State) (timer : Timer) (f : State → State) : Answered :=
  match timer with
  | none => .next s
  | some d => .next (f (s.advanceTo d))

/-- The step of a timer's end, with what a step ends with. -/
def State.onTimer (s : State) (timer : Timer) (f : State → State) : Answered :=
  s.atTimer timer fun t => State.reviewed s (f t)

/-! ## Replies (R185, R186) -/

/-- An entry joins the reply queue; while listen-only none is queued. -/
def State.queueEntry (s : State) (dest : Addr) (kind : Byte) (body : List Byte) : State :=
  if s.line.listenOnly then s
  else s.setLine { s.line with replies := s.line.replies ++ [{ dest := dest, kind := kind, body := body, count := 0 }] }

/-- A REPLY to a request. -/
def State.reply (s : State) (src : Addr) (kind : Byte) (a : Answer) : State :=
  s.queueEntry src kindReply (replyBody kind a)

/-- The reply queue is full: the request is lost (R185 test 1). -/
def State.queueFull (s : State) : Bool := decide (Config.replyQueueSize ≤ s.line.replies.length)

/-- The tests 1, 3 and 4 of R185 for a kind that is BUSY in START, then its own rule; the answer is queued. -/
def State.request (s : State) (src : Addr) (kind : Byte) (lengthFits : Bool) (rule : State → State × Answer) : State :=
  if s.queueFull then s
  else if s.msg.op = .start then s.reply src kind (.busy .notInState)
  else if lengthFits then (rule s).1.reply src kind (rule s).2
  else s.reply src kind (.refused .badLength)

/-- An unknown kind, and an action code outside its set: REFUSED for a reason (R184, R185 tests 2 and 4). -/
def State.refuseUnknown (s : State) (src : Addr) (kind : Byte) : State :=
  if s.queueFull then s else s.reply src kind (.refused .unknownKind)

/-- An action code outside the set of CALL or PRINT CONTROL: BUSY in START, else OUT-OF-RANGE before the length is judged (R185
tests 3 and 4). -/
def State.refuseAction (s : State) (src : Addr) (kind : Byte) : State :=
  s.request src kind true fun s => (s, .refused .outOfRange)

/-! ## SETUP (R189, R191) -/

/-- Entry to RUN: the KEYS timer starts if records are unsent (R183, R191). -/
def State.enterRun (s : State) : State :=
  s.setMsg { s.msg with
    op := .run
    keysTimer := if decide (0 < s.keysUnsent) && !s.line.listenOnly then some (s.now + Config.keysGatherTime)
      else s.msg.keysTimer }

/-- The notice queue under a new record: kinds now OFF are removed, and the rest take their destination from it (R187). -/
def Setup.reroute (r : Setup) (q : List NoticeEntry) : List NoticeEntry :=
  q.filterMap fun e => (r.routeDest e.notice.kind).map fun d => { e with dest := d }

/-- The window is CLOSED and the part enters RUN (R191). -/
def State.closeWindow (s : State) : State :=
  (s.setMsg { s.msg with window := .closed, windowTimer := none }).enterRun

/-- A SETUP taken (R189): the whole record in one step, each field at its place. -/
def State.takeSetup (s : State) (r : Setup) : State :=
  ((((s.setMsg { s.msg with setup := r }).setRouter { s.router with routing := r.routing }).setAsm
    { s.asm with stagedDarkness := r.darkness, formPosition := 0 }).setLine
    { s.line with notices := r.reroute s.line.notices }).closeWindow

/-- A SETUP request (R185, R189, R191). -/
def State.setupRequest (s : State) (src : Addr) (body : List Byte) : State :=
  if s.queueFull then s
  else if s.msg.window = .closed then s.reply src kindSetup (.refused .setupClosed)
  else if body.length = 22 then
    let r := setupOf body s.line.addr src
    (s.takeSetup r.1).reply src kindSetup (if r.2 then .adjusted else .accepted)
  else s.reply src kindSetup (.refused .badLength)

/-- The window timer expires (R191). -/
def State.windowExpiry (s : State) : State := s.closeWindow

/-! ## ROUTING and STATUS QUERY -/

/-- ROUTING (R19): all four values or none; during a call the flow state is evaluated (R29). -/
def State.routingRule (s : State) (body : List Byte) : State × Answer :=
  match routingOf body with
  | none => (s, .refused .outOfRange)
  | some r => ((s.setRouter { s.router with routing := r }).evaluateFlow.arrival, .accepted)

/-- A STATUS QUERY (R185, R188): its figures are those of the present moment. -/
def State.statusRequest (s : State) (src : Addr) (body : List Byte) : State :=
  if s.queueFull then s
  else if body.isEmpty then s.queueEntry src kindStatus s.statusBody
  else s.reply src kindStatusQuery (.refused .badLength)

/-! ## DOZE and wake (R193, R194) -/

/-- An image stands in the way of DOZE: it is WAITING or PRINTING, or OPEN and not empty (R193). -/
def Image.busy (i : Image) : Bool :=
  match i.st with
  | .free => false
  | .opened => !i.isEmpty
  | _ => true

/-- The conditions of DOZE (R193). -/
def State.dozeReady (s : State) : Bool :=
  decide (s.eng.st = .idle) && !s.asm.image1.busy && !s.asm.image2.busy
    && (decide (s.call.st = .idle) || decide (s.call.st = .ready))
    && s.pool.txq.isEmpty && s.pool.prq.isEmpty && s.pool.fwq.isEmpty

/-- A DOZE request (R193): taken when its conditions hold; one taken while DOZE is pending changes nothing. -/
def State.dozeRule (s : State) : State × Answer :=
  if s.dozeReady then
    if s.msg.dozePending then (s, .accepted)
    else
      let s1 := s.dozeRelease
      (s1.setMsg { s1.msg with dozePending := true }, .accepted)
  else (s, .busy .notInState)

/-- The scanner at entry to DOZE (R57). -/
def Keyboard.dozing (k : Keyboard) (now : Nat) : Keyboard :=
  { k with keys := k.keys.map fun p => { p with count := 0 }, candidate := none, repeatTimer := none, scanTimer := none,
           dozeTimer := some (now + Config.dozeScanPeriod) }

/-- The Budget Unit at entry to DOZE (R170). -/
def Budget.dozing (b : Budget) : Budget :=
  { b with restateTimer := none, parkTimer := none, settleTimer := none, barrierTimer := none, tickTimer := none }

/-- The engine at entry to DOZE: the history is cleared and the watch timer stopped (R136, R155). -/
def Engine.dozing (e : Engine) : Engine := { e with previous := 0, beforePrevious := 0, watchTimer := none }

/-- The part enters DOZE, each block by its own rule (R193). -/
def State.enterDoze (s : State) : State :=
  ((((((((s.silence.demodStop).setKbd (s.kbd.dozing s.now)).setCall { s.call with cupTimer := none }).setBeeper .reset).setAsm
    { s.asm with flushTimer := none }).setEng s.eng.dozing).setBud s.bud.dozing).setMsg
    { s.msg.stopGathers with op := .doze, dozePending := false })

/-- The first moment with the CLAIM slot and the reply queue empty while DOZE is pending: the conditions are tested again, with
the own claim, and the part enters DOZE or stays in RUN (R193). -/
def State.dozeMoment (s : State) : State :=
  if s.msg.dozePending && decide (s.msg.op = .run) && s.line.claimSlot.isNone && s.line.replies.isEmpty then
    if s.dozeReady && s.bud.own = 0 then s.enterDoze else s.setMsg { s.msg with dozePending := false }
  else s

/-- The Budget Unit at wake (R170). -/
def Budget.woken (b : Budget) (now : Nat) : Budget :=
  { b with table := [], record := none, barrierTimer := some (now + Config.wakeBarrier),
           tickTimer := some (now + Config.budgetTickPeriod) }

/-- The gathers at wake: each timer is started for its full length if its items are unsent (R183). -/
def State.gathersWoken (s : State) : State :=
  if s.line.listenOnly then s
  else s.setMsg { s.msg with
    keysTimer := if 0 < s.keysUnsent then some (s.now + Config.keysGatherTime) else none
    textTimer := if 0 < s.pool.unsentText then some (s.now + Config.textGatherTime) else none }

/-- The part leaves DOZE for RUN, each block by its own rule; the Budget Unit is set before the sample is judged (R57, R98, R155,
R170, R183, R194). -/
def State.wake (s : State) (sense : Sense) : State :=
  let s1 := ((((s.setMsg { s.msg with op := .run }).setKbd
    { s.kbd with scanTimer := some (s.now + Config.scanPeriod), dozeTimer := none }).setCall
    { s.call with cupTimer := some (s.now + Config.cupPeriod) }).setBud (s.bud.woken s.now)).setEng
    { s.eng with watchTimer := some (s.now + Config.watchPeriod) }
  (s1.gathersWoken).sampleNow sense

/-- The cups at a doze scan (R98): an opening while SEATED is noted, and a closing while UNSEATED starts the seating filter. The
flag says that the part wakes for it. A doze scan that finds a switch open while UNSEATED leaves the filter's count as it stood at
entry to DOZE (log entry 54, DESIGN CHOICE). -/
def State.dozeCups (s : State) (a b : Bool) : State × Bool :=
  if s.call.seated then
    if a && b then (s, false)
    else
      let st : CallState := if s.call.st = .ready then .idle else s.call.st
      ((s.setCall { s.call with seated := false, filter := 0, st := st }).askHandset, false)
  else if a && b then (s.setCall { s.call with filter := 1 }, true)
  else (s, false)

/-- One doze scan (R57, R98). -/
def State.dozeScan (s : State) (keys : Matrix) (a b : Bool) (sense : Sense) : State :=
  let s1 := (s.setKbd { s.kbd with dozeTimer := some (s.now + Config.dozeScanPeriod) }).setPins
    { s.pins with keys := keys, cupA := a, cupB := b }
  let r := s1.dozeCups a b
  if r.2 || decide (keys ≠ 0) then r.1.wake sense else r.1

/-! ## RESTART (R192) -/

/-- The pool at RESTART: all chains are discarded (R11). -/
def Pool.restarted (p : Pool) : Pool := ((p.discard .txq).discard .prq).discard .fwq

/-- The Line Interface at RESTART: every slot is emptied but PRESENT, which is made ready, and the flags are cleared (R178, R181,
R192). -/
def Line.restarted (l : Line) : Line := { l.silenced with listenOnly := false, retry := false, presentSlot := some 0 }

/-- The Message Unit at RESTART (R192). -/
def MessageUnit.restarted (m : MessageUnit) : MessageUnit :=
  { m.stopGathers with op := .run, dozePending := false, window := .closed, windowTimer := none, presentTimer := none }

/-- RESTART, as one step: every block takes its state after RESTART, and the engine takes its sample (R155, R192). -/
def State.restart (s : State) (sense : Sense) : State :=
  let s1 : State :=
    { s with
      pool := s.pool.restarted
      router := .reset s.msg.setup.routing
      beeper := .reset
      kbd := .reset s.now
      mod := .reset
      demod := .reset
      call := s.call.restarted
      asm := .reset s.msg.setup.darkness
      eng := .reset s.now
      bud := .reset s.bud.tickTimer
      line := s.line.restarted
      msg := s.msg.restarted
      pins := { s.pins with strobes := 0, motor := 0 } }
  s1.sampleNow sense

/-- A RESTART is executed with a length of 0 and otherwise ignored (R184, R192). -/
def State.restartMessage (s : State) (body : List Byte) (sense : Sense) : State :=
  if body.isEmpty then s.restart sense else s

/-! ## Broadcasts (R184) -/

/-- A broadcast ALLOWANCE (R156, R184). -/
def State.allowanceHeard (s : State) (src : Addr) (body : List Byte) : State :=
  match allowanceOf body with
  | some (mA, st) => s.setBud (s.bud.hearAllowance src mA st)
  | none => s

/-- A broadcast CLAIM (R158, R184). -/
def State.claimHeard (s : State) (src : Addr) (body : List Byte) : State :=
  match claimOf body with
  | some mA => s.setBud (s.bud.hearClaim s.line.addr src mA)
  | none => s

/-- A broadcast PRESENT (R184). -/
def State.presentHeard (s : State) (src : Addr) (body : List Byte) : State :=
  if body.length = 2 then s.setBud (s.bud.hearPresent s.line.addr src) else s

/-! ## Requests by kind (R184, R185) -/

/-- PRINT TEXT. -/
def State.printTextRequest (s : State) (src : Addr) (body : List Byte) : State :=
  s.request src kindPrintText true fun s => s.printTextRule body

/-- SEND TEXT. -/
def State.sendTextRequest (s : State) (src : Addr) (body : List Byte) : State :=
  s.request src kindSendText true fun s => s.sendTextRule body

/-- CALL with action ORIGINATE or ANSWER: three characters follow the action. -/
def State.placeRequest (s : State) (src : Addr) (mode : Mode) (args : List Byte) : State :=
  s.request src kindCall (args.length = 3) fun s => s.placeCall mode args

/-- CALL with action DROP. -/
def State.dropRequest (s : State) (src : Addr) (args : List Byte) : State :=
  s.request src kindCall args.isEmpty State.dropRule

/-- CALL with action BREAK. -/
def State.breakRequest (s : State) (src : Addr) (args : List Byte) : State :=
  s.request src kindCall args.isEmpty State.breakRule

/-- CALL with action LOOP TEST. -/
def State.loopRequest (s : State) (src : Addr) (args : List Byte) : State :=
  s.request src kindCall args.isEmpty State.loopRule

/-- PRINT CONTROL with action HOLD. -/
def State.holdRequest (s : State) (src : Addr) (args : List Byte) : State :=
  s.request src kindPrintControl args.isEmpty State.holdRule

/-- PRINT CONTROL with action RESUME. -/
def State.resumeRequest (s : State) (src : Addr) (args : List Byte) (sense : Sense) : State :=
  s.request src kindPrintControl args.isEmpty fun s => s.resumeRule sense

/-- PRINT CONTROL with action STOP NOW. -/
def State.stopNowRequest (s : State) (src : Addr) (args : List Byte) : State :=
  s.request src kindPrintControl args.isEmpty State.stopNowRule

/-- PRINT CONTROL with action STEP LINE. -/
def State.stepLineRequest (s : State) (src : Addr) (args : List Byte) (sense : Sense) : State :=
  s.request src kindPrintControl args.isEmpty fun s => s.stepLineRule sense

/-- PRINT CONTROL with action SET DARKNESS: one character follows the action. -/
def State.darknessRequest (s : State) (src : Addr) (args : List Byte) : State :=
  s.request src kindPrintControl (args.length = 1) fun s => s.setDarknessRule (charAt args 0)

/-- PRINT CONTROL with action SET WIDTH: one character follows the action. -/
def State.widthRequest (s : State) (src : Addr) (args : List Byte) : State :=
  s.request src kindPrintControl (args.length = 1) fun s => s.setWidthRule (charAt args 0)

/-- ROUTING. -/
def State.routingRequest (s : State) (src : Addr) (body : List Byte) : State :=
  s.request src kindRouting (body.length = 4) fun s => s.routingRule body

/-- DOZE. -/
def State.dozeRequest (s : State) (src : Addr) (body : List Byte) : State :=
  s.request src kindDoze body.isEmpty State.dozeRule

/-- RAW DOT LINE. -/
def State.rawRequest (s : State) (src : Addr) (body : List Byte) (sense : Sense) : State :=
  s.request src kindRawDotLine (body.length = 60) fun s => s.rawDotLineRule body sense

/-- A CALL body by its action (R185 test 4, R195); an empty body names no action and is of a wrong length. -/
def State.callByAction (s : State) (src : Addr) (body : List Byte) : State :=
  match body with
  | [] => s.request src kindCall false State.dropRule
  | action :: args =>
    match action.toNat with
    | 0 => s.placeRequest src .originate args
    | 1 => s.placeRequest src .answer args
    | 2 => s.dropRequest src args
    | 3 => s.breakRequest src args
    | 4 => s.loopRequest src args
    | _ => s.refuseAction src kindCall

/-- A PRINT CONTROL body by its action (R185 test 4, R195). -/
def State.printControlByAction (s : State) (src : Addr) (body : List Byte) (sense : Sense) : State :=
  match body with
  | [] => s.request src kindPrintControl false State.holdRule
  | action :: args =>
    match action.toNat with
    | 0 => s.holdRequest src args
    | 1 => s.resumeRequest src args sense
    | 2 => s.stopNowRequest src args
    | 3 => s.stepLineRequest src args sense
    | 4 => s.darknessRequest src args
    | 5 => s.widthRequest src args
    | _ => s.refuseAction src kindPrintControl

/-- A broadcast by its kind (R184). -/
def State.broadcastByKind (s : State) (src : Addr) (kind : Byte) (body : List Byte) (sense : Sense) : State :=
  if kind = kindAllowance then s.allowanceHeard src body
  else if kind = kindClaim then s.claimHeard src body
  else if kind = kindPresent then s.presentHeard src body
  else if kind = kindRestart then s.restartMessage body sense
  else s

/-- A message addressed to the part by its kind (R184). -/
def State.addressedByKind (s : State) (src : Addr) (kind : Byte) (body : List Byte) (sense : Sense) : State :=
  match kind.toNat with
  | 0x10 => s.setupRequest src body
  | 0x11 => s.printTextRequest src body
  | 0x12 => s.sendTextRequest src body
  | 0x13 => s.callByAction src body
  | 0x14 => s.printControlByAction src body sense
  | 0x15 => s.routingRequest src body
  | 0x16 => s.statusRequest src body
  | 0x17 => s.dozeRequest src body
  | 0x18 => s.restartMessage body sense
  | 0x19 => s.rawRequest src body sense
  | n =>
    if (1 ≤ n && n ≤ 3) || (0x20 ≤ n && n ≤ 0x24) then s else s.refuseUnknown src kind

/-! ## Delivery (R175, R177, R184, R194) -/

/-- A message that the receiver has taken completes, in a step that began at `before` and whose receiver stands as it then does:
in DOZE one that is not addressed to the part is passed over, and one that is wakes it (R194; log entry 26); one taken for the
conflict test enters listen-only (R177); one taken for delivery is acted upon (R184). -/
def State.taken (before s : State) (sense : Sense) (conflict addressed : Bool) (act : State → State) : State :=
  if s.msg.op = .doze ∧ addressed = false then s
  else
    let s1 := if s.msg.op = .doze then s.wake sense else s
    before.reviewed (if conflict then s1.enterListenOnly sense else act s1)

/-- A message of another station named by its kind, which the receiver has taken. None completes while an attempt of the part's
own runs. -/
def State.delivered (s : State) (m : Moment) (dest src : Addr) (act : State → State) : State :=
  if s.line.attempt.isSome then s
  else s.taken (s.heard m.t) m.sense (decide (src = s.line.addr)) (decide (dest = s.line.addr)) act

/-- A complete message taken for delivery, by its destination and kind (R184). -/
def State.byHead (s : State) (bytes : List Byte) (sense : Sense) : State :=
  let src := headSource (charAt bytes 0)
  let body := (bytes.drop 3).take (bytes.length - 4)
  if headDest (charAt bytes 0) = 0 then s.broadcastByKind src (charAt bytes 1) body sense
  else s.addressedByKind src (charAt bytes 1) body sense

/-- A complete message found on the wire (R175, R177). -/
def State.messageTaken (before s : State) (purpose : Purpose) (bytes : List Byte) (sense : Sense) : State :=
  before.taken s sense (decide (purpose = .conflict)) (decide (headDest (charAt bytes 0) = s.line.addr)) fun u =>
    u.byHead bytes sense

end Sys2Proof.Machine
end

