-- ==== Sys2Proof/Machine/Battery.lean ====
section
/-! DEFINITION. The meanings of the Budget Unit's events and of the broadcasts it hears (chapter 9). -/

namespace Sys2Proof.Machine

/-- BUDGET_TICK (R156, R159): the record and the table age. -/
def execBudgetTick (s : State) : Answered :=
  s.onTimer s.bud.tickTimer fun s => s.setBud { s.bud.age with tickTimer := some (s.now + Config.budgetTickPeriod) }

/-- SETTLE_EXPIRY (R164): the settle ends, and the engine is told. -/
def execSettleExpiry (sense : Sense) (s : State) : Answered :=
  match s.bud.raise with
  | .settling c => s.onTimer s.bud.settleTimer fun s => (s.settleEnd c).settleReport sense
  | _ => .next s

/-- RAISE_BARRIER_EXPIRY (R165): the raise test is made. -/
def execRaiseBarrierExpiry (s : State) : Answered :=
  s.onTimer s.bud.barrierTimer fun s => (s.setBud { s.bud with barrierTimer := none }).raiseTest

/-- The raise state is ASKING. -/
def Raise.isAsking : Raise → Bool
  | .asking _ => true
  | _ => false

/-- The restate timer ends (R167): the own claim is handed again unless a raise is asked for or a value is outstanding; an own
claim of 0 is not restated (log entry 15). -/
def State.restate (s : State) : State :=
  if s.bud.raise.isAsking || s.line.claimSlot.isSome then
    s.setBud { s.bud with restateTimer := some (s.now + Config.restateTime) }
  else
    let s1 := s.setBud { s.bud with restateTimer := none }
    if s.bud.own = 0 then s1 else s1.handClaim s.bud.own

/-- RESTATE_EXPIRY (R167). -/
def execRestateExpiry (s : State) : Answered := s.atTimer s.bud.restateTimer State.restate

/-- PARK_EXPIRY (R168): granted budget and own claim become 0, and a 0 is handed if the own claim was above 0. -/
def execParkExpiry (s : State) : Answered :=
  s.onTimer s.bud.parkTimer fun s =>
    (s.setBud { s.bud with parkTimer := none }).releaseClaim (decide (0 < s.bud.own)) .park

/-- ALLOWANCE (R156, R184). -/
def execAllowance (m : Moment) (src : Addr) (body : List Byte) (s : State) : Answered :=
  .next (s.delivered m 0 src fun s => s.allowanceHeard src body)

/-- CLAIM (R158, R184). -/
def execClaim (m : Moment) (src : Addr) (body : List Byte) (s : State) : Answered :=
  .next (s.delivered m 0 src fun s => s.claimHeard src body)

/-- PRESENT (R184). -/
def execPresent (m : Moment) (src : Addr) (body : List Byte) (s : State) : Answered :=
  .next (s.delivered m 0 src fun s => s.presentHeard src body)

end Sys2Proof.Machine
end

