-- ==== Sys2Proof/Machine/Calls.lean ====
section
/-! DEFINITION. The meanings of the cups' and the call's events and of the call requests (chapter 5). -/

namespace Sys2Proof.Machine

/-- CUPS_UNSEATED (R78): the reading that is due finds a switch open while SEATED. -/
def execCupsUnseated (a b : Bool) (s : State) : Answered :=
  if s.call.seated && !(a && b) then s.made (s.cupReading a b) else .next s

/-- CUPS_SEATED (R78): the reading that is due is the fiftieth in a row with both switches closed. -/
def execCupsSeated (s : State) : Answered :=
  if !s.call.seated && decide (s.call.filter + 1 = Config.seatReadings) then s.made (s.cupReading true true) else .next s

/-- CUP_SWITCH_READING (R78): the reading that is due. -/
def execCupSwitchReading (a b : Bool) (s : State) : Answered := s.made (s.cupReading a b)

/-- CARRIER_WAIT_EXPIRY (R82). -/
def execCarrierWaitExpiry (s : State) : Answered :=
  if s.call.st = .origWait ∨ s.call.st = .ansTone then s.onTimer s.call.carrierWait fun s => s.enterDropping .timeout
  else .next s

/-- FADE_EXPIRY (R86). -/
def execFadeExpiry (s : State) : Answered :=
  if s.call.st = .fading then s.onTimer s.call.fade fun s => s.enterDropping .fade else .next s

/-- UNSEAT_EXPIRY (R89). -/
def execUnseatExpiry (s : State) : Answered :=
  if s.call.st.carrying then s.onTimer s.call.unseat fun s => s.enterDropping .handset else .next s

/-- SILENCE_EXPIRY (R94, R95). -/
def execSilenceExpiry (s : State) : Answered :=
  if s.call.st = .dropping then s.atTimer s.call.silence State.silenceEnd else .next s

/-- ORIGINATE (R81, R82). -/
def execOriginate (m : Moment) (src : Addr) (args : List Byte) (s : State) : Answered :=
  .next (s.delivered m s.line.addr src fun s => s.placeRequest src .originate args)

/-- ANSWER (R81, R82). -/
def execAnswer (m : Moment) (src : Addr) (args : List Byte) (s : State) : Answered :=
  .next (s.delivered m s.line.addr src fun s => s.placeRequest src .answer args)

/-- DROP (R90). -/
def execDrop (m : Moment) (src : Addr) (args : List Byte) (s : State) : Answered :=
  .next (s.delivered m s.line.addr src fun s => s.dropRequest src args)

/-- BREAK (R91). -/
def execBreakRequest (m : Moment) (src : Addr) (args : List Byte) (s : State) : Answered :=
  .next (s.delivered m s.line.addr src fun s => s.breakRequest src args)

/-- LOOP TEST (R92). -/
def execLoopTest (m : Moment) (src : Addr) (args : List Byte) (s : State) : Answered :=
  .next (s.delivered m s.line.addr src fun s => s.loopRequest src args)

end Sys2Proof.Machine
end

