-- ==== Sys2Proof/Machine/Coupler.lean ====
section
/-! DEFINITION. The meanings of the coupler signal path's events (chapter 4). -/

namespace Sys2Proof.Machine

/-- MIC_EDGE (R64): a change of level on MIC at `t`. It is ignored while the demodulator does not listen (R63) and during the
loop test (R75), but for the pin itself. -/
def execMicEdge (t : Nat) (s : State) : Answered :=
  let s1 := s.advanceTo t
  let s2 := s1.setPins { s1.pins with mic := !s1.pins.mic }
  if s.call.st.listens && decide (s.call.st ≠ .loop) then .next (s2.crossing s2.now) else .next s2

/-- CARRIER_WINDOW_END (R65). -/
def execCarrierWindowEnd (s : State) : Answered := s.onTimer s.demod.windowTimer State.windowEnd

/-- A character recovered: handed to the Router, or in LOOP to the comparison (R67, R76, R77). -/
def State.charRecovered (s : State) (cell : Cell) : State :=
  if s.call.st = .loop then
    s.setMod { s.mod with test := s.mod.test.map fun l => l.compare (some (cell.code, cell.framing)) }
  else s.receiveItem cell

/-- A break detected: a BREAK cell and a BREAK-RECEIVED notice, or in LOOP an item of the comparison (R69, R76, R77). -/
def State.breakRecovered (s : State) : State :=
  if s.call.st = .loop then s.setMod { s.mod with test := s.mod.test.map fun l => l.compare none }
  else (s.receiveItem { code := 0, lineBreak := true }).askNotice (.breakReceived 1)

/-- RECEIVED_CHARACTER (R67): the sample event that delivers a character; in a state whose next sample event delivers none there
is no such event. -/
def execReceivedCharacter (s : State) : Answered :=
  if samplerRuns s.call.st then
    match s.sampleOnce with
    | (s1, .char cell) => s.made (s1.charRecovered cell)
    | _ => .next s
  else .next s

/-- RECEIVED_BREAK (R69): the sample event that detects a break; in a state whose next sample event detects none there is no such
event. -/
def execReceivedBreak (s : State) : Answered :=
  if samplerRuns s.call.st then
    match s.sampleOnce with
    | (s1, .lineBreak) => s.made s1.breakRecovered
    | _ => .next s
  else .next s

/-- RECEIVE_SAMPLE_EVENT (R66): the next sample event, with what it brings to light. -/
def execReceiveSampleEvent (s : State) : Answered :=
  if samplerRuns s.call.st then
    match s.sampleOnce with
    | (s1, .nothing) => .next s1
    | (s1, .char cell) => s.made (s1.charRecovered cell)
    | (s1, .lineBreak) => s.made s1.breakRecovered
  else .next s

/-- CHARACTER_BOUNDARY (R72): the end of a frame's last stop bit, or an arrival in CARRIER. -/
def execCharacterBoundary (s : State) : Answered :=
  match s.mod.frame with
  | some f => if f.bit + 1 = f.bits.length then .next ((s.advanceTo s.bitEnd).frameEnd f) else .next s
  | none => .next s.arrival

/-- The modulator passes to the next bit of its frame, or of the loop test (R72, R76). -/
def State.nextBit (s : State) : State :=
  match s.mod.test, s.mod.frame with
  | some l, _ =>
    s.setMod { s.mod with
      test := some { l with bit := l.bit + 1 }
      increment := bitIncrement .originate (testBit (l.bit + 1))
      bitSamples := s.mod.bitSamples - 16 }
  | none, some f =>
    s.setMod { s.mod with
      frame := some { f with bit := f.bit + 1 }
      increment := bitIncrement s.mode ((f.bits[f.bit + 1]?).getD true)
      bitSamples := s.mod.bitSamples - 16 }
  | none, none => s

/-- A further bit follows the one being sent (R72, R76). -/
def Modulator.bitFollows (m : Modulator) : Bool :=
  match m.test, m.frame with
  | some l, _ => decide (l.bit < 384)
  | none, some f => decide (f.bit + 1 < f.bits.length)
  | none, none => false

/-- FRAME_BIT_START (R72): the next bit of the frame, or of the loop test, begins. -/
def execFrameBitStart (s : State) : Answered :=
  if s.mod.bitFollows then .next (s.advanceTo s.bitEnd).nextBit else .next s

/-- BREAK_SPACE_END (R73): 50 ms of mark guard follow the space. -/
def execBreakSpaceEnd (s : State) : Answered :=
  if s.mod.st = .breakSpace then
    s.atTimer s.mod.breakTimer fun s =>
      s.setMod { s.mod with st := .breakGuard, increment := markIncrement s.mode,
                            breakTimer := some (s.now + Config.breakGuardTime) }
  else .next s

/-- BREAK_GUARD_END (R73, R91): the flag is cleared and a character boundary is reached. -/
def execBreakGuardEnd (s : State) : Answered :=
  if s.mod.st = .breakGuard then
    s.atTimer s.mod.breakTimer fun s =>
      (((s.setCall { s.call with breakInProgress := false }).setMod { s.mod with breakTimer := none }).toCarrier).arrival
  else .next s

/-- LOOP_TEST_END (R76, R77, R93): the tail's last bit time ends. -/
def execLoopTestEnd (s : State) : Answered :=
  match s.mod.test with
  | some l =>
    if s.call.st = .loop ∧ l.bit = 384 then s.made ((s.advanceTo s.bitEnd).endLoop 32 l.mismatches false) else .next s
  | none => .next s

/-- The tone sample clock event of the test accumulator's next crossing, counted from the test's start (R75). -/
def LoopTest.nextCrossing (l : LoopTest) (increment : Nat) : Nat :=
  l.samples + divUp ((if l.phase.toNat < 32768 then 32768 else 65536) - l.phase.toNat) increment

/-- The first crossing not yet handed on is handed to the classifier with its own time (R64, R75). -/
def State.handCrossing (s : State) : State :=
  match s.mod.test with
  | some l =>
    match l.due with
    | t :: rest => (s.setMod { s.mod with test := some { l with due := rest } }).crossing t
    | [] => s
  | none => s

/-- TEST_ACCUMULATOR_CROSSING (R75): the next crossing of the test accumulator, in place of a change of MIC. -/
def execTestAccumulatorCrossing (s : State) : Answered :=
  match s.mod.test with
  | some l =>
    if l.due.isEmpty then
      .next (s.advanceTo (l.started + toneEventTime (l.nextCrossing s.mod.increment))).handCrossing
    else .next s.handCrossing
  | none => .next s

end Sys2Proof.Machine
end

