-- ==== Sys2Proof/Machine/KeyboardOps.lean ====
section
/-! DEFINITION. The Keyboard Scanner (chapter 3): the key map, translation, debounce, ghosts, key events and auto-repeat. -/

namespace Sys2Proof.Machine

/-! ## The key map (R37) -/

/-- What a position carries: a character key (a letter by its lower-case code, a named key by its code, a digit or punctuation
key by its two codes), a modifier key, a special key, or nothing. -/
inductive Key where
  | letter (code : Byte)
  | named (code : Byte)
  | symbol (plain shifted : Byte)
  | shift
  | ctrl
  | capsLock
  | breakKey
  | localKey
  | paperFeed
  | spare
  deriving DecidableEq, Repr

/-- Drive line 0. -/
def keyRow0 : List Key :=
  [.named 0x1B, .symbol 0x31 0x21, .symbol 0x32 0x40, .symbol 0x33 0x23, .symbol 0x34 0x24, .symbol 0x35 0x25,
   .symbol 0x36 0x5E, .symbol 0x37 0x26, .symbol 0x38 0x2A]

/-- Drive line 1. -/
def keyRow1 : List Key :=
  [.symbol 0x39 0x28, .symbol 0x30 0x29, .symbol 0x2D 0x5F, .symbol 0x3D 0x2B, .symbol 0x60 0x7E, .named 0x08, .breakKey,
   .spare, .spare]

/-- Drive line 2. -/
def keyRow2 : List Key :=
  [.named 0x09, .letter 0x71, .letter 0x77, .letter 0x65, .letter 0x72, .letter 0x74, .letter 0x79, .letter 0x75,
   .letter 0x69]

/-- Drive line 3. -/
def keyRow3 : List Key :=
  [.letter 0x6F, .letter 0x70, .symbol 0x5B 0x7B, .symbol 0x5D 0x7D, .symbol 0x5C 0x7C, .named 0x7F, .localKey, .spare, .spare]

/-- Drive line 4. -/
def keyRow4 : List Key :=
  [.ctrl, .letter 0x61, .letter 0x73, .letter 0x64, .letter 0x66, .letter 0x67, .letter 0x68, .letter 0x6A, .letter 0x6B]

/-- Drive line 5. -/
def keyRow5 : List Key :=
  [.letter 0x6C, .symbol 0x3B 0x3A, .symbol 0x27 0x22, .named 0x0D, .named 0x0A, .paperFeed, .spare, .spare, .spare]

/-- Drive line 6. -/
def keyRow6 : List Key :=
  [.shift, .letter 0x7A, .letter 0x78, .letter 0x63, .letter 0x76, .letter 0x62, .letter 0x6E, .letter 0x6D, .symbol 0x2C 0x3C]

/-- Drive line 7. -/
def keyRow7 : List Key :=
  [.symbol 0x2E 0x3E, .symbol 0x2F 0x3F, .shift, .capsLock, .named 0x20, .spare, .spare, .spare, .spare]

/-- The key at a position (R37). -/
def keyAt (pos : Nat) : Key :=
  ((keyRow0 ++ keyRow1 ++ keyRow2 ++ keyRow3 ++ keyRow4 ++ keyRow5 ++ keyRow6 ++ keyRow7)[pos]?).getD .spare

/-- BREAK, LOCAL and PAPER FEED (section 3.1). -/
def Key.isSpecial : Key → Bool
  | .breakKey => true
  | .localKey => true
  | .paperFeed => true
  | _ => false

/-- A character key (section 3.1). -/
def Key.isCharacter : Key → Bool
  | .letter _ => true
  | .named _ => true
  | .symbol _ _ => true
  | _ => false

/-- A character key or PAPER FEED repeats (R47). -/
def Key.repeatable (k : Key) : Bool := k.isCharacter || decide (k = .paperFeed)

/-! ## Translation (R45, R46) -/

/-- The code that CTRL makes of a code, none where it gives no code (R46). -/
def ctrlCode (code : Byte) : Option Byte :=
  if 0x40 ≤ code.toNat && code.toNat ≤ 0x5F then some (code - 0x40)
  else if 0x61 ≤ code.toNat && code.toNat ≤ 0x7A then some (code - 0x60)
  else none

/-- The code of a key under the modifiers in force (R45, R46). -/
def Key.translate (k : Key) (shift ctrl caps : Bool) : Option Byte :=
  let under (code : Byte) : Option Byte := if ctrl then ctrlCode code else some code
  match k with
  | .letter code => under (if shift || caps then code - 0x20 else code)
  | .named code => some code
  | .symbol plain shifted => under (if shift then shifted else plain)
  | _ => none

/-! ## The matrix -/

/-- A position is DOWN. -/
def Keyboard.isDown (k : Keyboard) (pos : Nat) : Bool :=
  match k.keys[pos]? with
  | some p => p.st = .down
  | none => false

/-- The state of a position replaced. -/
def Keyboard.setState (k : Keyboard) (pos : Nat) (st : KeyState) : Keyboard :=
  { k with keys := k.keys.modify pos fun p => { p with st := st } }

/-- SHIFT is in force (R44). -/
def Keyboard.shiftOn (k : Keyboard) : Bool := k.isDown 54 || k.isDown 65

/-- CTRL is in force (R44). -/
def Keyboard.ctrlOn (k : Keyboard) : Bool := k.isDown 36

/-- Three DOWN positions stand at the other corners of some rectangle with the position (R41). -/
def Keyboard.ghost (k : Keyboard) (pos : Nat) : Bool :=
  let r := pos / 9
  let c := pos % 9
  (List.range 8).any fun r' => (List.range 9).any fun c' =>
    decide (r' ≠ r) && decide (c' ≠ c) && k.isDown (9 * r + c') && k.isDown (9 * r' + c) && k.isDown (9 * r' + c')

/-- The debounce of a position at one reading (R39). -/
def KeyPos.debounce (p : KeyPos) (reading : Bool) : KeyPos :=
  if reading = p.level then { p with count := 0 }
  else if p.count + 1 = 3 then { p with level := reading, count := 0 }
  else { p with count := p.count + 1 }

/-- Step 1 of R38. -/
def Keyboard.debounced (k : Keyboard) (keys : Matrix) : Keyboard :=
  { k with keys := k.keys.zipIdx.map fun p => p.1.debounce (keys.getLsbD p.2) }

/-! ## Key events (R49) -/

/-- The record of an event, with the modifiers in force once its own effect has been applied (R44, R49). -/
def Keyboard.record (k : Keyboard) (pos : Nat) (event : KeyEvent) : KeyRecord :=
  { pos := pos, event := event, shift := k.shiftOn, ctrl := k.ctrlOn, caps := k.caps,
    code := if event = .up then none else (keyAt pos).translate k.shiftOn k.ctrlOn k.caps, lostBefore := false }

/-- The record enters the key FIFO (R50). -/
def State.recordsKey (s : State) (pos : Nat) : Bool :=
  !s.line.listenOnly
    && (decide (s.msg.op = .start) || decide (s.router.routing.target ≠ .line) || (keyAt pos).isSpecial)

/-- A record offered to the key FIFO: stored, with LOST-BEFORE after a run of drops, or dropped (R52). -/
def State.offerRecord (s : State) (r : KeyRecord) : State :=
  if s.kbd.fifo.length < Config.keyFifoSize then
    s.setKbd { s.kbd with fifo := s.kbd.fifo ++ [{ r with lostBefore := s.kbd.keyLost }], keyLost := false }
  else if s.kbd.keyLost then s
  else (s.setKbd { s.kbd with keyLost := true }).askNotice .keyLost

/-- The action of a special key: BREAK and LOCAL at their DOWN events, PAPER FEED at REPEAT events too (R53 to R55). -/
def State.specialKey (s : State) (pos : Nat) (event : KeyEvent) (sense : Sense) : State :=
  match keyAt pos, event with
  | .breakKey, .down => s.breakKey
  | .localKey, .down => s.setRouter { s.router with localMode := !s.router.localMode }
  | .paperFeed, .down => s.paperFeed sense
  | .paperFeed, .again => s.paperFeed sense
  | _, _ => s

/-- The effect of an event on the modifiers (R44): a DOWN event of CAPS LOCK toggles caps lock. -/
def Keyboard.applyModifier (k : Keyboard) (pos : Nat) (event : KeyEvent) : Keyboard :=
  if keyAt pos = .capsLock ∧ event = .down then { k with caps := !k.caps } else k

/-- An event handled completely (R49). -/
def State.keyEvent (s : State) (pos : Nat) (event : KeyEvent) (sense : Sense) : State :=
  let s1 := s.setKbd (s.kbd.applyModifier pos event)
  let r := s1.kbd.record pos event
  let s2 : State := if event = .down ∧ s1.msg.setup.click then s1.askSound .click else s1
  let s3 : State := if s2.recordsKey pos then s2.offerRecord r else s2
  let s4 : State := match r.code with
    | some code => if s3.msg.op = .run then s3.keyedChar code else s3
    | none => s3
  s4.specialKey pos event sense

/-! ## Auto-repeat (R47, R48) -/

/-- The repeat interval in µs (R48). -/
def repeatInterval (rate : Nat) : Nat := divRound 1000000 rate

/-- A position becomes the repeat candidate (R47, R48). -/
def State.makeCandidate (s : State) (pos : Nat) : State :=
  s.setKbd { s.kbd with
    candidate := some pos
    repeatTimer := if (keyAt pos).repeatable then some (s.now + s.msg.setup.repeatDelay * 1000) else none }

/-- The candidate that goes UP becomes none (R47). -/
def Keyboard.dropCandidate (k : Keyboard) (pos : Nat) : Keyboard :=
  if k.candidate = some pos then { k with candidate := none, repeatTimer := none } else k

/-- The repeat timer expires (R48). -/
def State.repeatNow (s : State) (sense : Sense) : State :=
  match s.kbd.candidate with
  | none => s.setKbd { s.kbd with repeatTimer := none }
  | some pos =>
    (s.setKbd { s.kbd with repeatTimer := some (s.now + repeatInterval s.msg.setup.repeatRate) }).keyEvent pos .again sense

/-! ## A scan (R38) -/

/-- A position goes DOWN with its event (R41, R42, R47). -/
def State.keyDown (s : State) (pos : Nat) (sense : Sense) : State :=
  ((s.setKbd (s.kbd.setState pos .down)).makeCandidate pos).keyEvent pos .down sense

/-- A position is released: a DOWN one with an UP event, a BLOCKED one with none (R40). -/
def State.keyUp (s : State) (pos : Nat) (sense : Sense) : State :=
  let k := s.kbd.setState pos .up
  if s.kbd.isDown pos then (s.setKbd (k.dropCandidate pos)).keyEvent pos .up sense else s.setKbd k

/-- A completed press is judged: BLOCKED behind a rectangle, otherwise DOWN (R41). -/
def State.judgePress (s : State) (pos : Nat) (sense : Sense) : State :=
  if s.kbd.ghost pos then s.setKbd (s.kbd.setState pos .blocked) else s.keyDown pos sense

/-- A BLOCKED position is tested for promotion (R42). -/
def State.testBlocked (s : State) (pos : Nat) (sense : Sense) : State :=
  if s.kbd.ghost pos then s else s.keyDown pos sense

/-- The positions, ascending, at which two scanner states satisfy a test: before and after the debounce of a scan. -/
def positionsWhere (before after : List KeyPos) (test : KeyPos → KeyPos → Bool) : List Nat :=
  (List.range 72).filter fun p =>
    match before[p]?, after[p]? with
    | some a, some b => test a b
    | _, _ => false

/-- One scan, in the order of R38. -/
def State.scan (s : State) (keys : Matrix) (sense : Sense) : State :=
  let before := s.kbd.keys
  let s1 := (s.setKbd (s.kbd.debounced keys)).setPins { s.pins with keys := keys }
  let after := s1.kbd.keys
  let released := positionsWhere before after fun a b => a.level && !b.level
  let blocked := positionsWhere before after fun a b => decide (a.st = .blocked) && b.level
  let pressed := positionsWhere before after fun a b => !a.level && b.level
  let s2 := released.foldl (fun s p => s.keyUp p sense) s1
  let s3 := blocked.foldl (fun s p => s.testBlocked p sense) s2
  pressed.foldl (fun s p => s.judgePress p sense) s3

end Sys2Proof.Machine
end

