-- ==== Sys2Proof/Machine/Keys.lean ====
section
/-! DEFINITION. The meanings of the keyboard's and the Beeper's events (chapters 2 and 3). -/

namespace Sys2Proof.Machine

/-- KEYBOARD_SCAN (R38): the scan that is due. -/
def execKeyboardScan (keys : Matrix) (sense : Sense) (s : State) : Answered :=
  s.onTimer s.kbd.scanTimer fun s =>
    (s.setKbd { s.kbd with scanTimer := some (s.now + Config.scanPeriod) }).scan keys sense

/-- REPEAT_TIMER_EXPIRY (R48). -/
def execRepeatTimerExpiry (sense : Sense) (s : State) : Answered := s.onTimer s.kbd.repeatTimer fun s => s.repeatNow sense

/-- DOZE_SCAN (R57, R98). -/
def execDozeScan (keys : Matrix) (a b : Bool) (sense : Sense) (s : State) : Answered :=
  s.onTimer s.kbd.dozeTimer fun s => s.dozeScan keys a b sense

/-- SOUND_END (R34): the current sound becomes none. -/
def execSoundEnd (s : State) : Answered := s.atTimer s.beeper.ends fun s => s.setBeeper .reset

/-- KEYS_GATHER_EXPIRY (R183): the gather becomes due; what the step ends with builds the message. -/
def execKeysGatherExpiry (s : State) : Answered :=
  s.onTimer s.msg.keysTimer fun s => s.setMsg { s.msg with keysTimer := none, keysDue := true }

end Sys2Proof.Machine
end

