-- ==== Sys2Proof/Machine/Power.lean ====
section
/-! DEFINITION. The meanings of power-on, the setup window, DOZE, wake and RESTART (chapter 11). -/

namespace Sys2Proof.Machine

/-- POWER_ON_RESET (R190): the straps are read, every block takes its state after reset, and the sample of entry to START is
taken (R118, R154). The commands waiting outside stay. -/
def execPowerOnReset (straps : Addr) (rateHigh : Bool) (sense : Sense) (s : State) : Answered :=
  .next ((State.powerUp s.pending straps rateHigh).sampleNow sense)

/-- PRESENT_DELAY_EXPIRY (R190): the PRESENT is made ready in its slot. -/
def execPresentDelayExpiry (s : State) : Answered :=
  s.atTimer s.msg.presentTimer fun s =>
    (s.setMsg { s.msg with presentTimer := none }).setLine { s.line with presentSlot := some 0 }

/-- SETUP_WINDOW_EXPIRY (R191): the window closes, the record keeps its defaults, and the part enters RUN. -/
def execSetupWindowExpiry (s : State) : Answered := s.onTimer s.msg.windowTimer State.windowExpiry

/-- DOZE (R193). -/
def execDoze (m : Moment) (src : Addr) (body : List Byte) (s : State) : Answered :=
  .next (s.delivered m s.line.addr src fun s => s.dozeRequest src body)

/-- ENTER_DOZE (R193). -/
def execEnterDoze (s : State) : Answered := .next s.dozeMoment

/-- RESTART, broadcast or addressed (R184, R192). -/
def execRestart (m : Moment) (src : Addr) (broadcast : Bool) (body : List Byte) (s : State) : Answered :=
  .next (s.delivered m (if broadcast then 0 else s.line.addr) src fun s => s.restartMessage body m.sense)

/-- MARKER_CHARACTER_IN_DOZE (R194): a marker character completes in DOZE with the wave; one for the part's own address wakes the
part and is taken by R175, and any other is passed over. -/
def execMarkerCharacterInDoze (wave : Wave) (sense : Sense) (s : State) : Answered :=
  match s.heardEvent wave with
  | some (.marker head) =>
    let s1 := s.afterWave wave
    s.made (if headDest head = s.line.addr then s1.wake sense else s1)
  | _ => .next s

end Sys2Proof.Machine
end

