-- ==== Sys2Proof/Machine/Print.lean ====
section
/-! DEFINITION. The meanings of the Line Assembler's and the Print Engine's events and of the print requests (chapters 6 to 8). -/

namespace Sys2Proof.Machine

/-- TAKE_PRQ_CELL (R102, R103). -/
def execTakePrqCell (m : Moment) (s : State) : Answered := s.made ((s.advanceTo m.t).takePrq m.sense)

/-- IDLE_FLUSH_EXPIRY (R114). -/
def execIdleFlushExpiry (sense : Sense) (s : State) : Answered := s.onTimer s.asm.flushTimer fun s => s.idleFlush sense

/-- WATCH_SAMPLE (R118). -/
def execWatchSample (sense : Sense) (s : State) : Answered := s.onTimer s.eng.watchTimer fun s => s.watch sense

/-- The engine passes to the next stage of a burst, with what the strobes and the head's latch then hold (R123, R130). -/
def State.nextPhase (s : State) (d : DotLine) : State :=
  let d' := d.nextStage s.eng.previous s.eng.beforePrevious
  let dots := d'.heated s.eng.previous s.eng.beforePrevious
  (s.setEng { s.eng with inProgress := some d' }).setPins
    { s.pins with strobes := d'.strobes, head := if dots = 0 then s.pins.head else dots }

/-- BURST_PHASE_END (R123, R130): the load or phase in progress ends. -/
def execBurstPhaseEnd (s : State) : Answered :=
  match s.eng.inProgress with
  | some d => if d.stage = .advance then .next s else .next ((s.advanceTo d.ends).nextPhase d)
  | none => .next s

/-- A half-step of the paper motor begins (R132). -/
def State.halfStep (s : State) (d : DotLine) : State :=
  let phase := s.eng.motorPhase + 1
  (s.setEng { s.eng with
      motorPhase := phase
      inProgress := some { d with
        ends := s.now + Config.halfStepTime, halfSteps := d.halfSteps + 1, starting := false } }).setPins
    { s.pins with motor := motorOutputs phase }

/-- HALF_STEP_START (R132): the first half-step begins with the ADVANCE, the second where the first ends. -/
def execHalfStepStart (s : State) : Answered :=
  match s.eng.inProgress with
  | some d =>
    if d.stage = .advance ∧ d.halfSteps < 2 then .next ((s.advanceTo d.ends).halfStep d) else .next s
  | none => .next s

/-- DOT_LINE_END (R133, R143): the second half-step ends. -/
def execDotLineEnd (sense : Sense) (s : State) : Answered :=
  match s.eng.inProgress with
  | some d =>
    if d.stage = .advance ∧ 2 ≤ d.halfSteps then s.made ((s.advanceTo d.ends).endDotLine d sense) else .next s
  | none => .next s

/-- PRINT TEXT (R26). -/
def execPrintText (m : Moment) (src : Addr) (body : List Byte) (s : State) : Answered :=
  .next (s.delivered m s.line.addr src fun s => s.printTextRequest src body)

/-- HOLD (R148). -/
def execHold (m : Moment) (src : Addr) (args : List Byte) (s : State) : Answered :=
  .next (s.delivered m s.line.addr src fun s => s.holdRequest src args)

/-- RESUME (R149). -/
def execResume (m : Moment) (src : Addr) (args : List Byte) (s : State) : Answered :=
  .next (s.delivered m s.line.addr src fun s => s.resumeRequest src args m.sense)

/-- STOP NOW (R150). -/
def execStopNow (m : Moment) (src : Addr) (args : List Byte) (s : State) : Answered :=
  .next (s.delivered m s.line.addr src fun s => s.stopNowRequest src args)

/-- STEP LINE (R151). -/
def execStepLine (m : Moment) (src : Addr) (args : List Byte) (s : State) : Answered :=
  .next (s.delivered m s.line.addr src fun s => s.stepLineRequest src args m.sense)

/-- SET DARKNESS (R153). -/
def execSetDarkness (m : Moment) (src : Addr) (args : List Byte) (s : State) : Answered :=
  .next (s.delivered m s.line.addr src fun s => s.darknessRequest src args)

/-- SET WIDTH (R153). -/
def execSetWidth (m : Moment) (src : Addr) (args : List Byte) (s : State) : Answered :=
  .next (s.delivered m s.line.addr src fun s => s.widthRequest src args)

/-- RAW DOT LINE (R152). -/
def execRawDotLine (m : Moment) (src : Addr) (body : List Byte) (s : State) : Answered :=
  .next (s.delivered m s.line.addr src fun s => s.rawRequest src body m.sense)

end Sys2Proof.Machine
end

