-- ==== Sys2Proof/WellFormed.lean ====
section
/-! DEFINITION. Which commands the outside can send: bodies of the lengths the wire carries (R174), bits that
lie within the longest message (R172), and waves without empty stretches. -/

namespace Sys2Proof

/-- A body the wire can carry: 0 to 64 characters (R174). -/
def bodyFits (body : List Byte) : Bool := body.length ≤ Config.maxBody

/-- The characters after the action of a CALL or PRINT CONTROL body: at most 63 (R174). -/
def argsFit (args : List Byte) : Bool := args.length < Config.maxBody

/-- A bit number within the longest message of 68 characters of 11 bits (R172, R173). -/
def bitFits (bit : Nat) : Bool := bit < 748

/-- A wave: no stretch is without length. -/
def waveFits (wave : Wave) : Bool := wave.all fun r => 0 < r.length

/-- A kind code of the table of section 11.1. -/
def kindKnown (kind : Byte) : Bool :=
  (1 ≤ kind.toNat && kind.toNat ≤ 3) || (0x10 ≤ kind.toNat && kind.toNat ≤ 0x19) || (0x20 ≤ kind.toNat && kind.toNat ≤ 0x24)

/-- The check of each command's operands. -/
def Instr.wellFormed : Instr → Bool
  | .powerOnReset _ _ _ => true
  | .presentDelayExpiry => true
  | .setupWindowExpiry => true
  | .keyboardScan _ _ => true
  | .repeatTimerExpiry _ => true
  | .dozeScan _ _ _ _ => true
  | .soundEnd => true
  | .cupsUnseated a b => !(a && b)
  | .cupsSeated => true
  | .micEdge _ => true
  | .carrierWindowEnd => true
  | .receivedCharacter => true
  | .receivedBreak => true
  | .characterBoundary => true
  | .breakSpaceEnd => true
  | .breakGuardEnd => true
  | .loopTestEnd => true
  | .carrierWaitExpiry => true
  | .fadeExpiry => true
  | .unseatExpiry => true
  | .silenceExpiry => true
  | .takePrqCell _ => true
  | .idleFlushExpiry _ => true
  | .watchSample _ => true
  | .burstPhaseEnd => true
  | .halfStepStart => true
  | .dotLineEnd _ => true
  | .budgetTick => true
  | .settleExpiry _ => true
  | .raiseBarrierExpiry => true
  | .restateExpiry => true
  | .parkExpiry => true
  | .sendWaitEnd wave => waveFits wave
  | .attemptCompleted => true
  | .attemptLost bit => bitFits bit
  | .lineFault bit => bitFits bit
  | .wireBreak wave => waveFits wave
  | .messageReceived wave _ => waveFits wave
  | .messageRejected wave _ => waveFits wave
  | .keysGatherExpiry => true
  | .receivedTextGatherExpiry => true
  | .allowance _ _ body => bodyFits body
  | .claim _ _ body => bodyFits body
  | .present _ _ body => bodyFits body
  | .unknownKind _ _ kind body => !kindKnown kind && bodyFits body
  | .setup _ _ body => bodyFits body
  | .printText _ _ body => bodyFits body
  | .sendText _ _ body => bodyFits body
  | .originate _ _ args => argsFit args
  | .answer _ _ args => argsFit args
  | .drop _ _ args => argsFit args
  | .breakRequest _ _ args => argsFit args
  | .loopTest _ _ args => argsFit args
  | .hold _ _ args => argsFit args
  | .resume _ _ args => argsFit args
  | .stopNow _ _ args => argsFit args
  | .stepLine _ _ args => argsFit args
  | .setDarkness _ _ args => argsFit args
  | .setWidth _ _ args => argsFit args
  | .routing _ _ body => bodyFits body
  | .statusQuery _ _ body => bodyFits body
  | .doze _ _ body => bodyFits body
  | .enterDoze => true
  | .restart _ _ _ body => bodyFits body
  | .rawDotLine _ _ body => bodyFits body
  | .cupSwitchReading _ _ => true
  | .receiveSampleEvent => true
  | .frameBitStart => true
  | .testAccumulatorCrossing => true
  | .markerCharacterInDoze wave _ => waveFits wave

end Sys2Proof
end

