-- ==== Sys2Proof/Machine/Wire.lean ====
section
/-! DEFINITION. The meanings of the party line's events and of the remaining requests (chapters 10 and 11). -/

namespace Sys2Proof.Machine

/-- SEND_WAIT_END (R178, R181): the wait ends with the wave. -/
def execSendWaitEnd (wave : Wave) (s : State) : Answered := .next (s.endWait wave)

/-- ATTEMPT_COMPLETED (R179, R180). -/
def execAttemptCompleted (s : State) : Answered :=
  match s.line.attempt with
  | some a => s.made (s.attemptDone a)
  | none => .next s

/-- ATTEMPT_LOST (R179, R180): a bit that the part released reads 0. -/
def execAttemptLost (bit : Nat) (s : State) : Answered :=
  match s.line.attempt with
  | some a => if (messageBits a.bytes)[bit]? = some true then s.made (s.attemptFailsLost a bit) else .next s
  | none => .next s

/-- LINE_FAULT (R179, R180): a bit that the part drove low reads 1. -/
def execLineFault (bit : Nat) (s : State) : Answered :=
  match s.line.attempt with
  | some a => if (messageBits a.bytes)[bit]? = some false then s.made (s.attemptFailsFault a bit) else .next s
  | none => .next s

/-- WIRE_BREAK (R176): the low count reaches 24 bit times with the wave. -/
def execWireBreak (wave : Wave) (s : State) : Answered :=
  match s.heardEvent wave with
  | some .lineBreak => .next (s.afterWave wave)
  | _ => .next s

/-- MESSAGE_RECEIVED (R175, R177, R184): a message that the receiver has taken completes and is valid with the wave. -/
def execMessageReceived (wave : Wave) (sense : Sense) (s : State) : Answered :=
  match s.heardEvent wave with
  | some (.complete purpose bytes) => .next (s.messageTaken (s.afterWave wave) purpose bytes sense)
  | _ => .next s

/-- MESSAGE_REJECTED (R176): a message in progress is discarded with the wave, for that cause. -/
def execMessageRejected (wave : Wave) (cause : RejectCause) (s : State) : Answered :=
  match s.heardEvent wave with
  | some (.rejected c) => .next (if c = cause then s.afterWave wave else s)
  | _ => .next s

/-- RECEIVED_TEXT_GATHER_EXPIRY (R183): the gather becomes due; what the step ends with builds the message. -/
def execReceivedTextGatherExpiry (s : State) : Answered :=
  s.onTimer s.msg.textTimer fun s => s.setMsg { s.msg with textTimer := none, textDue := true }

/-- UNKNOWN_KIND (R184): a kind of section 11.1 makes no such event. -/
def execUnknownKind (m : Moment) (src : Addr) (kind : Byte) (_body : List Byte) (s : State) : Answered :=
  if kindKnown kind then .next s
  else .next (s.delivered m s.line.addr src fun s => s.refuseUnknown src kind)

/-- SETUP (R189, R191). -/
def execSetup (m : Moment) (src : Addr) (body : List Byte) (s : State) : Answered :=
  .next (s.delivered m s.line.addr src fun s => s.setupRequest src body)

/-- SEND TEXT (R27). -/
def execSendText (m : Moment) (src : Addr) (body : List Byte) (s : State) : Answered :=
  .next (s.delivered m s.line.addr src fun s => s.sendTextRequest src body)

/-- ROUTING (R19). -/
def execRouting (m : Moment) (src : Addr) (body : List Byte) (s : State) : Answered :=
  .next (s.delivered m s.line.addr src fun s => s.routingRequest src body)

/-- STATUS QUERY (R188). -/
def execStatusQuery (m : Moment) (src : Addr) (body : List Byte) (s : State) : Answered :=
  .next (s.delivered m s.line.addr src fun s => s.statusRequest src body)

end Sys2Proof.Machine
end

