-- ==== Sys2Proof/Machine/Dispatch.lean ====
section
/-! DEFINITION. The dispatch of the commands: one arm per constructor of Instr, each a direct call of its meaning. -/

namespace Sys2Proof.Machine

/-- The effect of a command on everything but the queue of waiting commands. -/
def exec (i : Instr) (s : State) : Host.Outcome State Fault Refusal :=
  match i with
  | .powerOnReset straps rateHigh sense => Sys2Proof.Machine.execPowerOnReset straps rateHigh sense s
  | .presentDelayExpiry => Sys2Proof.Machine.execPresentDelayExpiry s
  | .setupWindowExpiry => Sys2Proof.Machine.execSetupWindowExpiry s
  | .keyboardScan keys sense => Sys2Proof.Machine.execKeyboardScan keys sense s
  | .repeatTimerExpiry sense => Sys2Proof.Machine.execRepeatTimerExpiry sense s
  | .dozeScan keys cupA cupB sense => Sys2Proof.Machine.execDozeScan keys cupA cupB sense s
  | .soundEnd => Sys2Proof.Machine.execSoundEnd s
  | .cupsUnseated cupA cupB => Sys2Proof.Machine.execCupsUnseated cupA cupB s
  | .cupsSeated => Sys2Proof.Machine.execCupsSeated s
  | .micEdge t => Sys2Proof.Machine.execMicEdge t s
  | .carrierWindowEnd => Sys2Proof.Machine.execCarrierWindowEnd s
  | .receivedCharacter => Sys2Proof.Machine.execReceivedCharacter s
  | .receivedBreak => Sys2Proof.Machine.execReceivedBreak s
  | .characterBoundary => Sys2Proof.Machine.execCharacterBoundary s
  | .breakSpaceEnd => Sys2Proof.Machine.execBreakSpaceEnd s
  | .breakGuardEnd => Sys2Proof.Machine.execBreakGuardEnd s
  | .loopTestEnd => Sys2Proof.Machine.execLoopTestEnd s
  | .carrierWaitExpiry => Sys2Proof.Machine.execCarrierWaitExpiry s
  | .fadeExpiry => Sys2Proof.Machine.execFadeExpiry s
  | .unseatExpiry => Sys2Proof.Machine.execUnseatExpiry s
  | .silenceExpiry => Sys2Proof.Machine.execSilenceExpiry s
  | .takePrqCell m => Sys2Proof.Machine.execTakePrqCell m s
  | .idleFlushExpiry sense => Sys2Proof.Machine.execIdleFlushExpiry sense s
  | .watchSample sense => Sys2Proof.Machine.execWatchSample sense s
  | .burstPhaseEnd => Sys2Proof.Machine.execBurstPhaseEnd s
  | .halfStepStart => Sys2Proof.Machine.execHalfStepStart s
  | .dotLineEnd sense => Sys2Proof.Machine.execDotLineEnd sense s
  | .budgetTick => Sys2Proof.Machine.execBudgetTick s
  | .settleExpiry sense => Sys2Proof.Machine.execSettleExpiry sense s
  | .raiseBarrierExpiry => Sys2Proof.Machine.execRaiseBarrierExpiry s
  | .restateExpiry => Sys2Proof.Machine.execRestateExpiry s
  | .parkExpiry => Sys2Proof.Machine.execParkExpiry s
  | .sendWaitEnd wave => Sys2Proof.Machine.execSendWaitEnd wave s
  | .attemptCompleted => Sys2Proof.Machine.execAttemptCompleted s
  | .attemptLost bit => Sys2Proof.Machine.execAttemptLost bit s
  | .lineFault bit => Sys2Proof.Machine.execLineFault bit s
  | .wireBreak wave => Sys2Proof.Machine.execWireBreak wave s
  | .messageReceived wave sense => Sys2Proof.Machine.execMessageReceived wave sense s
  | .messageRejected wave cause => Sys2Proof.Machine.execMessageRejected wave cause s
  | .keysGatherExpiry => Sys2Proof.Machine.execKeysGatherExpiry s
  | .receivedTextGatherExpiry => Sys2Proof.Machine.execReceivedTextGatherExpiry s
  | .allowance m src body => Sys2Proof.Machine.execAllowance m src body s
  | .claim m src body => Sys2Proof.Machine.execClaim m src body s
  | .present m src body => Sys2Proof.Machine.execPresent m src body s
  | .unknownKind m src kind body => Sys2Proof.Machine.execUnknownKind m src kind body s
  | .setup m src body => Sys2Proof.Machine.execSetup m src body s
  | .printText m src body => Sys2Proof.Machine.execPrintText m src body s
  | .sendText m src body => Sys2Proof.Machine.execSendText m src body s
  | .originate m src args => Sys2Proof.Machine.execOriginate m src args s
  | .answer m src args => Sys2Proof.Machine.execAnswer m src args s
  | .drop m src args => Sys2Proof.Machine.execDrop m src args s
  | .breakRequest m src args => Sys2Proof.Machine.execBreakRequest m src args s
  | .loopTest m src args => Sys2Proof.Machine.execLoopTest m src args s
  | .hold m src args => Sys2Proof.Machine.execHold m src args s
  | .resume m src args => Sys2Proof.Machine.execResume m src args s
  | .stopNow m src args => Sys2Proof.Machine.execStopNow m src args s
  | .stepLine m src args => Sys2Proof.Machine.execStepLine m src args s
  | .setDarkness m src args => Sys2Proof.Machine.execSetDarkness m src args s
  | .setWidth m src args => Sys2Proof.Machine.execSetWidth m src args s
  | .routing m src body => Sys2Proof.Machine.execRouting m src body s
  | .statusQuery m src body => Sys2Proof.Machine.execStatusQuery m src body s
  | .doze m src body => Sys2Proof.Machine.execDoze m src body s
  | .enterDoze => Sys2Proof.Machine.execEnterDoze s
  | .restart m src broadcast body => Sys2Proof.Machine.execRestart m src broadcast body s
  | .rawDotLine m src body => Sys2Proof.Machine.execRawDotLine m src body s
  | .cupSwitchReading cupA cupB => Sys2Proof.Machine.execCupSwitchReading cupA cupB s
  | .receiveSampleEvent => Sys2Proof.Machine.execReceiveSampleEvent s
  | .frameBitStart => Sys2Proof.Machine.execFrameBitStart s
  | .testAccumulatorCrossing => Sys2Proof.Machine.execTestAccumulatorCrossing s
  | .markerCharacterInDoze wave sense => Sys2Proof.Machine.execMarkerCharacterInDoze wave sense s

end Sys2Proof.Machine
end

