-- ==== Sys2Proof/Safety.lean ====
section
/-! DEFINITION. The terms that the statements use: when a request reaches its own rule, and the laws of the state that every
step keeps. -/

namespace Sys2Proof

/-! ## Which commands may change what -/

/-- Power-on reset, a RESTART, or a whole message, which may be one. -/
def Instr.mayRestart : Instr → Bool
  | .powerOnReset _ _ _ => true
  | .restart _ _ _ _ => true
  | .messageReceived _ _ => true
  | _ => false

/-- The part's own straps are read. -/
def Instr.readsStraps : Instr → Bool
  | .powerOnReset _ _ _ => true
  | _ => false

/-- A SETUP. -/
def Instr.setsUp : Instr → Bool
  | .setup _ _ _ => true
  | _ => false

/-- ROUTING. -/
def Instr.routes : Instr → Bool
  | .routing _ _ _ => true
  | _ => false

/-- ORIGINATE and ANSWER. -/
def Instr.placesCall : Instr → Bool
  | .originate _ _ _ => true
  | .answer _ _ _ => true
  | _ => false

/-- A scan of the matrix. -/
def Instr.scansKeys : Instr → Bool
  | .keyboardScan _ _ => true
  | _ => false

/-- A reading of the cups. -/
def Instr.readsCups : Instr → Bool
  | .cupsUnseated _ _ => true
  | .cupsSeated => true
  | .cupSwitchReading _ _ => true
  | .dozeScan _ _ _ _ => true
  | _ => false

/-- SET DARKNESS. -/
def Instr.stagesDarkness : Instr → Bool
  | .setDarkness _ _ _ => true
  | _ => false

/-- SET WIDTH. -/
def Instr.stagesWidth : Instr → Bool
  | .setWidth _ _ _ => true
  | _ => false

/-- A half-step of the paper motor begins: at its own command, or where STOP NOW finds one begun at that moment (R135). -/
def Instr.stepsMotor : Instr → Bool
  | .halfStepStart => true
  | .stopNow _ _ _ => true
  | _ => false

/-- An attempt that completes. -/
def Instr.completesAttempt : Instr → Bool
  | .attemptCompleted => true
  | _ => false

end Sys2Proof

namespace Sys2Proof.Machine

/-! ## Requests -/

/-- A message of `src` that completes now reaches its own rule: no attempt of the part's own runs, the part is in RUN, and the
message does not come under the part's own address (R175, R177, R185 test 3). -/
structure State.Hears (s : State) (src : Addr) : Prop where
  quiet : s.line.attempt = none
  running : s.msg.op = .run
  other : src ≠ s.line.addr

/-- A request of `src` reaches its own rule: its message does, and the reply queue has room (R185 test 1). -/
structure State.Takes (s : State) (src : Addr) : Prop extends s.Hears src where
  room : s.line.replies.length < Config.replyQueueSize

/-- The wave in which another station sends a message after that many µs of high wire, up to the middle of its check's stop bit
(R173, R174). -/
def messageWave (bit gap : Nat) (bytes : List Byte) : Wave :=
  { high := true, length := gap } :: (messageBits bytes).dropLast.map (fun b => { high := b, length := bit })
    ++ [{ high := true, length := bit / 2 }]

/-! ## The Text Pool -/

/-- A block of a chain: consumed < fill ≤ 16 (R2). -/
def Block.sound (b : Block) : Bool := b.consumed < b.cells.length && b.cells.length ≤ Config.blockCells

/-- The blocks behind the head: nothing consumed, and all but the tail full (R2). -/
def bodySound : List Block → Bool
  | [] => true
  | [b] => b.sound && b.consumed = 0
  | b :: rest => b.sound && b.consumed = 0 && b.cells.length = Config.blockCells && bodySound rest

/-- A chain: its head may be partly consumed, and every block but the tail is full (R2, R4). -/
def chainSound : List Block → Bool
  | [] => true
  | [b] => b.sound
  | b :: rest => b.sound && b.cells.length = Config.blockCells && bodySound rest

/-- Every block's number, in whichever place the block stands. -/
def Pool.allIds (p : Pool) : List Nat :=
  p.free ++ (p.txq.map Block.id ++ (p.prq.map Block.id ++ p.fwq.map Block.id))

/-- The pool's laws: each of the 64 blocks is in exactly one place, no chain is above its cap, the blocks have the counts of R2,
and what is in a message is in FWQ (R2, R5, R10). -/
structure Pool.Law (p : Pool) : Prop where
  once : p.allIds.Perm (List.range Config.poolBlocks)
  txq : p.txq.length ≤ Config.txqCap ∧ chainSound p.txq = true
  prq : p.prq.length ≤ Config.prqCap ∧ chainSound p.prq = true
  fwq : p.fwq.length ≤ Config.fwqCap ∧ chainSound p.fwq = true
  copied : p.fwqInMessage ≤ (chainCells p.fwq).length ∧ p.fwqInMessage ≤ Config.cellsPerMessage

/-- The cells of a body: the first carries LOST-BEFORE where a loss is pending (R7, R14). -/
def bodyCells (lost : Bool) : List Byte → List Cell
  | [] => []
  | c :: rest => { code := c, lostBefore := lost } :: rest.map fun c => { code := c }

/-- TXQ holds nothing outside ONLINE and FADING (R12). -/
def State.TxqLaw (s : State) : Prop := s.call.st.carrying = false → s.pool.txq = []

/-! ## Outbound flow control -/

/-- The Router's law (R29): in ONLINE and FADING with flow control enabled and the free count at or below the low mark, the state
is PENDING-STOP or STOPPED. -/
def State.FlowLaw (s : State) : Prop :=
  s.call.st.carrying = true → s.msg.setup.flowEnable = true → s.pool.free.length ≤ s.msg.setup.lowMark →
    s.router.flow = .pendingStop ∨ s.router.flow = .stopped

/-- What the Router's law rests on: the marks are apart, and while a SETUP may still be taken the part is in START, with no call
and no doze scan. -/
structure State.FlowGround (s : State) : Prop where
  marks : s.msg.setup.lowMark < s.msg.setup.highMark
  start : s.msg.window ≠ .closed → s.msg.op = .start ∧ (s.call.st = .idle ∨ s.call.st = .ready)
  scans : s.msg.op ≠ .doze → s.kbd.dozeTimer = none

/-! ## Keys and outbound queues -/

/-- The key FIFO holds at most 16 records, of which the KEYS message in its slot carries the first 1 to 8 (R51). -/
structure State.KeyLaw (s : State) : Prop where
  size : s.kbd.fifo.length ≤ Config.keyFifoSize
  copied : s.kbd.inMessage ≤ s.kbd.fifo.length ∧ s.kbd.inMessage ≤ Config.keysPerMessage
  slot : s.line.keysSlot = none ↔ s.kbd.inMessage = 0
  records : ∀ k, s.line.keysSlot = some k → k.records = s.kbd.fifo.take s.kbd.inMessage

/-- The reply queue holds at most four entries and the notice queue at most one of each kind (R186, R187). -/
structure State.QueueLaw (s : State) : Prop where
  replies : s.line.replies.length ≤ Config.replyQueueSize
  notices : (s.line.notices.map fun e => e.notice.kind).Nodup

/-! ## The call -/

/-- The call state agrees with the cups, the call parameters and the flags (R79, R80, R88, R91). -/
structure State.CallLaw (s : State) : Prop where
  idle : s.call.st = .idle → s.call.seated = false
  ready : s.call.st = .ready → s.call.seated = true
  params : s.call.st = .origWait ∨ s.call.st = .ansTone ∨ s.call.st.carrying = true → s.call.params.isSome = true
  muted : s.call.muted = true → s.call.st.carrying = true
  breaking : s.call.breakInProgress = true → s.call.st.carrying = true

/-! ## The Print Engine -/

/-- The engine is HELD exactly while a condition is present, and its recorded cause is then one of them (R144, R147). -/
structure State.HeldLaw (s : State) : Prop where
  held : s.eng.st = .held ↔ s.eng.holds.any = true
  none_ : s.eng.cause = none ↔ s.eng.holds.any = false
  present : ∀ c, s.eng.cause = some c → s.eng.holds.has c = true

/-! ## The Budget Unit -/

/-- What the engine may come to draw without a further CLAIM: the granted budget, or the value that is settling. -/
def Budget.drawn (b : Budget) : Nat :=
  match b.raise with
  | .settling v => max b.granted v
  | _ => b.granted

/-- What may be drawn has been claimed: it is within the completed claim, the own claim and every value still to be sent; and a
value being asked for is the own claim and the last value handed (R161, R163, R166). -/
structure State.ClaimLaw (s : State) : Prop where
  completed : s.bud.drawn ≤ s.bud.completed
  own : s.bud.drawn ≤ s.bud.own
  slot : ∀ c, s.line.claimSlot = some c → s.bud.drawn ≤ c.mA ∧ ∀ v, c.next = some v → s.bud.drawn ≤ v
  asking : ∀ v, s.bud.raise = .asking v →
    s.bud.own = v ∧ ∃ c, s.line.claimSlot = some c ∧ c.next.getD c.mA = v

/-- The neighbour table: one entry for each address, none for 0, 15 or the own address, each above 0 mA and at most 5000 mA, and
none older than R159 allows (R158, R159, R184). -/
structure State.TableLaw (s : State) : Prop where
  once : (s.bud.table.map Neighbour.addr).Nodup
  entries : ∀ e ∈ s.bud.table, e.addr ≠ 0 ∧ e.addr ≠ 15 ∧ e.addr ≠ s.line.addr ∧ 0 < e.mA ∧ e.mA ≤ Config.maxCurrent ∧
    e.age < Config.entryDropAge

/-! ## The setup record -/

/-- Every field of the setup record lies in its range (R189). -/
structure Setup.Law (r : Setup) : Prop where
  ohms : 100 ≤ r.dotOhms ∧ r.dotOhms ≤ 400
  ceiling : 300 ≤ r.ceiling ∧ r.ceiling ≤ 3000
  motor : 100 ≤ r.motor ∧ r.motor ≤ 800
  darkness : r.darkness ≤ 7
  form : r.formLength = 0 ∨ 20 ≤ r.formLength ∧ r.formLength ≤ 132
  flush : r.flushSeconds ≤ 9
  delay : 250 ≤ r.repeatDelay ∧ r.repeatDelay ≤ 1000
  rate : 5 ≤ r.repeatRate ∧ r.repeatRate ≤ 30
  low : 4 ≤ r.lowMark ∧ r.lowMark ≤ 24
  high : r.lowMark + 8 ≤ r.highMark ∧ r.highMark ≤ 48
  wait : 10 ≤ r.carrierWait ∧ r.carrierWait ≤ 60
  fade : 100 ≤ r.fadeLimit ∧ r.fadeLimit ≤ 1000
  routes : r.routes.length = 10

end Sys2Proof.Machine
end

