-- ==== Sys2Proof/Certificates/Slice0/Obligations.lean ====
section
/-! DEFINITION. The statements for the provers. A statement of a command's effect gives its next state as an equation; most steps
end with `State.reviewed s`, which the statement EndOfStep describes. `s.heard m.t` is the state once
a message of another station has completed (ReceiverRules). -/

open Sys2Proof Sys2Proof.Machine

/-! ## The machine -/

/-- A step is the execution of the command at the front of the queue, with the rest of the queue (the model's choice: log entry
12). -/
def Obligations.StepTakesFront : Prop :=
  ∀ (c : Instr) (rest : List Instr) (s : State), step (s.setPending (c :: rest)) = exec c (s.setPending rest)

/-- No command ever stops the part, and none touches the queue of waiting commands: every refusal, hold or loss of the spec is
an effect on the state (the model's choice for a command whose event cannot occur in the state: log entry 6). -/
def Obligations.EveryCommandCompletes : Prop :=
  ∀ (c : Instr) (s : State), ∃ t, exec c s = .next t ∧ t.pending = s.pending

/-- With no command waiting, a step is one µs of the time base (the model's choice, log entry 8). Time passing (R59, R61): the
tone sample clock's event k falls at 31.25 × k µs rounded down, counted from power-on reset (the model's choice, log entry 49);
the send accumulator steps at each event unless the modulator is silent; both 24-bit baud accumulators step at each µs, and an
overflow counts as a sample event of the bit being sent, and in ONLINE and LOOP of the receive sampler. The loop test (R75):
its events fall likewise from its start; at each the test accumulator steps, and a crossing of half-scale or a wrap is noted
with its moment. (That sample events are counted and crossings listed as they fall due, each to be handled by its own command,
is the model's choice: log entry 42; so are the rate of the accumulators outside a call, log entry 31, and that time never goes
back, log entry 7.) The outputs: TONE is at mid level while silent or muted and otherwise at the step that the top six bits of
the send accumulator name (R59, R60, R74); LEVEL is high for LOUD (R60); BEEP makes 2000 Hz for a click, 1600 Hz for a bell and
two tones of 500 Hz for an error (R34); PLINE is driven low by a bit of 0 of the attempt in progress (R172, R179). -/
def Obligations.TimePasses : Prop :=
  (∀ s : State, s.pending = [] → step s = .next (s.advanceTo (s.now + 1))) ∧
  (∀ t k : Nat, k ≤ toneEvents t ↔ 125 * k / 4 ≤ t) ∧
  (∀ (s : State) (t : Nat), t ≤ s.now → s.advanceTo t = s) ∧
  (∀ (s : State) (t : Nat), s.now < t →
    let u := s.advanceTo t
    let events := toneEvents t - toneEvents s.now
    let step := (t - s.now) * s.baudStep
    u.now = t
      ∧ u.mod.phase = (if s.mod.st = .silent then s.mod.phase
          else BitVec.ofNat 16 (s.mod.phase.toNat + events * s.mod.increment))
      ∧ u.mod.baudAcc = BitVec.ofNat 24 (s.mod.baudAcc.toNat + step)
      ∧ u.mod.bitSamples = (if s.mod.frame = none ∧ s.mod.test = none then s.mod.bitSamples
          else s.mod.bitSamples + (s.mod.baudAcc.toNat + step) / 2 ^ 24)
      ∧ u.mod.test = s.mod.test.map (fun l => LoopTest.steps s.mod.increment (toneEvents (t - l.started) - l.samples) l)
      ∧ u.demod.sampler.baudAcc = BitVec.ofNat 24 (s.demod.sampler.baudAcc.toNat + step)
      ∧ u.demod.sampler.due = (if s.call.st = .online ∨ s.call.st = .loop
          then s.demod.sampler.due + (s.demod.sampler.baudAcc.toNat + step) / 2 ^ 24 else s.demod.sampler.due)
      ∧ u = { s with
          now := t
          mod := { s.mod with
            phase := u.mod.phase, baudAcc := u.mod.baudAcc, bitSamples := u.mod.bitSamples, test := u.mod.test }
          demod := { s.demod with
            sampler := { s.demod.sampler with baudAcc := u.demod.sampler.baudAcc, due := u.demod.sampler.due } } }) ∧
  (∀ (inc n : Nat) (l : LoopTest),
    let sum := l.phase.toNat + inc
    LoopTest.steps inc 0 l = l
      ∧ LoopTest.steps inc (n + 1) l = LoopTest.steps inc n { l with
          samples := l.samples + 1
          phase := BitVec.ofNat 16 sum
          due := if (l.phase.toNat < 32768 ∧ 32768 ≤ sum) ∨ (32768 ≤ l.phase.toNat ∧ 65536 ≤ sum)
            then l.due ++ [l.started + 125 * (l.samples + 1) / 4] else l.due }) ∧
  ∀ s : State,
    s.toneOut = (if s.mod.st = .silent ∨ s.call.muted = true then none else some (s.mod.phase.toNat / 1024))
      ∧ s.levelOut = s.msg.setup.loud
      ∧ (s.beeper.sound = .none → s.beepOut = none)
      ∧ (s.beeper.sound = .click → s.beepOut = some 2000)
      ∧ (s.beeper.sound = .bell → s.beepOut = some 1600)
      ∧ (s.beeper.sound = .error →
          s.beepOut = if s.beeper.started + 60000 ≤ s.now ∧ s.now < s.beeper.started + 120000 then none else some 500)
      ∧ (s.line.attempt = none → s.plineLow = false)
      ∧ ∀ a, s.line.attempt = some a →
          (s.plineLow = true ↔
            (messageBits a.bytes)[(s.now - a.started) / (if s.line.fast then 16 else 64)]? = some false)

/-- What only certain commands change, over all commands: the setup record (R189), the address and rate straps (R190), the
routing settings (R18), the local-mode flag (R20), caps lock (R44), the cup-switch state (R78), the call parameters (R80), the
staged values (R101, R153), the motor phase (R132), the completed claim (R161), and the listen-only flag, which only RESTART
and power-on reset clear (R177). -/
def Obligations.WhoChangesWhat : Prop :=
  ∀ (c : Instr) (s t : State), exec c s = .next t →
    (c.readsStraps = false → t.line.addr = s.line.addr ∧ t.line.fast = s.line.fast ∧ t.pins.straps = s.pins.straps
        ∧ (c.readsCups = false → t.call.seated = s.call.seated))
      ∧ (c.mayRestart = false →
          (c.setsUp = false → t.msg.setup = s.msg.setup)
            ∧ (c.setsUp = false → c.routes = false → t.router.routing = s.router.routing)
            ∧ (c.placesCall = false → t.call.params = s.call.params)
            ∧ (c.scansKeys = false → t.kbd.caps = s.kbd.caps ∧ t.router.localMode = s.router.localMode)
            ∧ (c.setsUp = false → c.stagesDarkness = false → t.asm.stagedDarkness = s.asm.stagedDarkness)
            ∧ (c.stagesWidth = false → t.asm.stagedWide = s.asm.stagedWide)
            ∧ (c.stepsMotor = false → t.eng.motorPhase = s.eng.motorPhase)
            ∧ (c.completesAttempt = false → t.bud.completed = s.bud.completed)
            ∧ (s.line.listenOnly = true → t.line.listenOnly = true))

/-- What a step ends with: the raise test where one of its inputs has changed in the step (R162), the park timer's condition
(R168), and then the gathers of keys and of received text (R183), which GatherExpiry describes. All this touches little: the
raise state and own claim with the CLAIM slot, the park timer, and the gathers with their slots and in-message counts; all else
stays. The park timer is started for 1.0 s when the engine comes to be IDLE with the own claim or the granted budget above 0,
runs on while that holds, and is stopped when it does not. The raise test (R162): it is passed over while a raise is in
progress, the barrier runs, the part is listen-only or in DOZE; otherwise a raise begins exactly when the engine is CLAIMING,
PRINTING or HELD with BUDGET present, desired is above 0 and meets the need, and the granted budget is below the need or at
least 100 mA below desired. A raise hands desired as the own claim. (That the test, the park timer's condition and the gathers
stand once at a step's end is the model's choice: log entries 10 and 11.) -/
def Obligations.EndOfStep : Prop :=
  (∀ before s : State,
    let t := State.reviewed before s
    t = { s with
      pool := { s.pool with fwqInMessage := t.pool.fwqInMessage }
      kbd := { s.kbd with inMessage := t.kbd.inMessage }
      bud := { s.bud with raise := t.bud.raise, own := t.bud.own, parkTimer := t.bud.parkTimer }
      line := { s.line with claimSlot := t.line.claimSlot, keysSlot := t.line.keysSlot, textSlot := t.line.textSlot }
      msg := { s.msg with
        keysTimer := t.msg.keysTimer, keysDue := t.msg.keysDue, textTimer := t.msg.textTimer, textDue := t.msg.textDue } }) ∧
  (∀ before s : State,
    let inputs (x : State) :=
      (x.eng.st, x.eng.holds.budget, x.need, x.bud.allowance, x.bud.battery, x.bud.tableSum, x.fixedLoad, x.ceiling,
        x.bud.granted, decide (x.bud.raise = .none))
    let parks (x : State) : Prop := x.eng.st = .idle ∧ (0 < x.bud.own ∨ 0 < x.bud.granted)
    ∃ s1 s2 : State,
      (inputs s = inputs before → s1 = s)
        ∧ (inputs s ≠ inputs before → s1 = s.raiseTest)
        ∧ (parks s1 → parks before → s2 = s1)
        ∧ (parks s1 → ¬ parks before → s2 = s1.setBud { s1.bud with parkTimer := some (s1.now + 1000000) })
        ∧ (¬ parks s1 → s2 = s1.setBud { s1.bud with parkTimer := none })
        ∧ State.reviewed before s = State.textGather before (State.keysGather before s2)) ∧
  ∀ s : State,
    let passed := s.bud.raise ≠ .none ∨ s.bud.barrierTimer ≠ none ∨ s.line.listenOnly = true ∨ s.msg.op = .doze
    let wanted := (s.eng.st = .claiming ∨ s.eng.st = .printing ∨ s.eng.holds.budget = true)
      ∧ 0 < s.desired ∧ s.need ≤ s.desired ∧ (s.bud.granted < s.need ∨ s.bud.granted + 100 ≤ s.desired)
    (passed ∨ ¬ wanted → s.raiseTest = s)
      ∧ (¬ passed → wanted →
          s.raiseTest.bud = { s.bud with raise := .asking s.desired, own := s.desired }
            ∧ (s.line.claimSlot = none ∨ s.line.carrying .claim = false →
                s.raiseTest.line = { s.line with claimSlot := some { mA := s.desired, count := 0, next := none } })
            ∧ (∀ c, s.line.claimSlot = some c → s.line.carrying .claim = true →
                s.raiseTest.line = { s.line with claimSlot := some { c with next := some s.desired } })
            ∧ s.raiseTest = (s.setBud s.raiseTest.bud).setLine s.raiseTest.line)

/-! ## The Text Pool and the Router -/

/-- One cell offered to a chain (R6, R14): written into a tail with room, else into the top free block while the chain is below
its cap, else nothing; a cell stored takes the chain's lost-pending flag with it. A cell taken (R9): the head block's next
cell; a block that it empties goes on top of the free stack, and an empty chain gives nothing. A block's cell stored or taken
so changes the pool as FlowTable says. -/
def Obligations.CellsStoredAndTaken : Prop :=
  (∀ (p : Pool) (c : Chain) (cell : Cell),
    let marked := { cell with lostBefore := cell.lostBefore || p.lost c }
    let full := ∀ b, (p.chain c).getLast? = some b → Config.blockCells ≤ b.cells.length
    (∀ b, (p.chain c).getLast? = some b → b.cells.length < Config.blockCells →
        p.store c cell
          = some ((p.setChain c ((p.chain c).dropLast ++ [{ b with cells := b.cells ++ [marked] }])).setLost c false))
      ∧ (∀ id rest, full → (p.chain c).length < c.cap → p.free = id :: rest →
          p.store c cell
            = some (((p.setFree rest).setChain c (p.chain c ++ [{ id := id, cells := [marked], consumed := 0 }])).setLost c
                false))
      ∧ (full → c.cap ≤ (p.chain c).length ∨ p.free = [] → p.store c cell = none)) ∧
  (∀ (p : Pool) (c : Chain), p.Law →
    (p.chain c = [] → p.take c = none)
      ∧ ∀ b rest, p.chain c = b :: rest →
          ∃ cell, b.cells[b.consumed]? = some cell
            ∧ chainCells (p.chain c) = cell :: chainCells (if b.consumed + 1 = b.cells.length then rest
                else { b with consumed := b.consumed + 1 } :: rest)
            ∧ p.take c = some (cell,
                if b.consumed + 1 = b.cells.length then (p.setFree (b.id :: p.free)).setChain c rest
                else p.setChain c ({ b with consumed := b.consumed + 1 } :: rest))) ∧
  (∀ (p : Pool) (v : Bool) (bs : List Block) (ids : List Nat),
    p.chain .txq = p.txq ∧ p.chain .prq = p.prq ∧ p.chain .fwq = p.fwq
      ∧ p.setChain .txq bs = { p with txq := bs } ∧ p.setChain .prq bs = { p with prq := bs }
      ∧ p.setChain .fwq bs = { p with fwq := bs } ∧ p.setFree ids = { p with free := ids }
      ∧ p.lost .txq = false ∧ p.lost .prq = p.prqLost ∧ p.lost .fwq = p.fwqLost
      ∧ p.setLost .txq v = p ∧ p.setLost .prq v = { p with prqLost := v } ∧ p.setLost .fwq v = { p with fwqLost := v }
      ∧ Chain.cap .txq = 16 ∧ Chain.cap .prq = 56 ∧ Chain.cap .fwq = 24) ∧
  ∀ (s : State) (c : Chain) (cell : Cell),
    (s.pool.store c cell = none → s.storeCell c cell = none)
      ∧ (∀ p, s.pool.store c cell = some p → s.storeCell c cell = some (s.changePool p))
      ∧ (s.pool.take c = none → s.takeCell c = none)
      ∧ (∀ p, s.pool.take c = some (cell, p) → s.takeCell c = some (cell, s.changePool p))

/-- A controller body offered to a chain (R7, R14): stored whole when its blocks fit the cap and the free count, and otherwise
not at all. Stored, its cells follow the chain's, the first with the pending loss, and the blocks needed leave the free
stack. -/
def Obligations.BodyStoredWhole : Prop :=
  ∀ (p : Pool) (c : Chain) (body : List Byte), p.Law →
    let room := match (p.chain c).getLast? with
      | some b => Config.blockCells - b.cells.length
      | none => 0
    let need := if body.length ≤ room then 0 else (body.length - room + 15) / 16
    blocksNeeded body.length (tailRoom (p.chain c)) = need
      ∧ (c.cap < (p.chain c).length + need ∨ p.free.length < need → p.storeBody c body = none)
      ∧ ((p.chain c).length + need ≤ c.cap → need ≤ p.free.length →
          ∃ q, p.storeBody c body = some q
            ∧ chainCells (q.chain c) = chainCells (p.chain c) ++ bodyCells (p.lost c) body
            ∧ (q.chain c).length = (p.chain c).length + need
            ∧ q.free = p.free.drop need
            ∧ q.lost c = (p.lost c && body.isEmpty)
            ∧ q = ((p.setFree q.free).setChain c (q.chain c)).setLost c (q.lost c))

/-- The pool's two laws hold after every step, with the shapes of R2 and the in-message count of R10 (R5): each of the 64
blocks is in exactly one place, and no chain is above its cap. -/
def Obligations.PoolLawKept : Prop :=
  ∀ s t : State, s.pool.Law → step s = .next t → t.pool.Law

/-- The Router's law is kept by every step, with what it rests on (R29). -/
def Obligations.FlowLawKept : Prop :=
  ∀ s t : State, s.FlowGround → s.FlowLaw → step s = .next t → t.FlowGround ∧ t.FlowLaw

/-- The outbound flow state's moves: every cell of the table of R30 that can occur, evaluations first, completions last. The
Router evaluates pressure and release while the call is ONLINE or FADING and flow control is enabled. Pressure: the free count
at or below the low mark, PRQ at 54 blocks or FWQ at 22 as a destination of receive copy, FWQ only while not listen-only.
Release: the free count at or above the high mark, PRQ at 48 blocks or fewer and FWQ at 16 or fewer (R29). And every pool
change of such a call that changes the free count is followed by an evaluation on the pool as it then stands (R16, R29). A code
whose last stop bit is sent completes with a FLOW notice and an evaluation (R29, R30; that every completion is followed by one
is the model's choice, log entry 13). -/
def Obligations.FlowTable : Prop :=
  (∀ other : Bool,
    flowAfter .clear none true false = .pendingStop
      ∧ flowAfter .clear none false other = .clear
      ∧ flowAfter .pendingStop none true false = .pendingStop
      ∧ flowAfter .pendingStop none false true = .clear
      ∧ (∀ c, flowAfter .pendingStop (some c) true false = .pendingStop)
      ∧ (∀ c, flowAfter .pendingStop (some c) false true = .pendingStop)
      ∧ flowAfter .stopped none true false = .stopped
      ∧ flowAfter .stopped none false true = .pendingGo
      ∧ flowAfter .pendingGo none true false = .stopped
      ∧ flowAfter .pendingGo none false true = .pendingGo
      ∧ flowAfter .pendingGo (some .go) true false = .pendingStop
      ∧ flowAfter .pendingGo (some .go) false true = .pendingGo
      ∧ (∀ f i, flowAfter f i false false = f)
      ∧ flowCompleted .pendingStop .stop = .stopped
      ∧ flowCompleted .pendingStop .go = .pendingStop
      ∧ flowCompleted .pendingGo .go = .clear) ∧
  (∀ s : State,
    (s.call.st = .online ∨ s.call.st = .fading → s.msg.setup.flowEnable = true →
        s.evaluateFlow = s.setRouter { s.router with
          flow := flowAfter s.router.flow s.router.inFlight s.pressure s.release })
      ∧ ((s.call.st ≠ .online ∧ s.call.st ≠ .fading) ∨ s.msg.setup.flowEnable = false → s.evaluateFlow = s)) ∧
  (∀ s : State,
    (s.pressure = true ↔ s.pool.free.length ≤ s.msg.setup.lowMark
        ∨ (54 ≤ s.pool.prq.length ∧ s.router.routing.copy ≠ .controller)
        ∨ (22 ≤ s.pool.fwq.length ∧ s.router.routing.copy ≠ .print ∧ s.line.listenOnly = false))
      ∧ (s.release = true ↔
          s.msg.setup.highMark ≤ s.pool.free.length ∧ s.pool.prq.length ≤ 48 ∧ s.pool.fwq.length ≤ 16)) ∧
  (∀ (s : State) (p : Pool),
    (p.free.length ≠ s.pool.free.length → s.changePool p = (s.setPool p).evaluateFlow)
      ∧ (p.free.length = s.pool.free.length → s.changePool p = s.setPool p)) ∧
  ∀ s : State,
    s.flowComplete .stop
        = ((s.setRouter { s.router with flow := flowCompleted s.router.flow .stop, inFlight := none }).askNotice
            (.flow .stopSent)).evaluateFlow
      ∧ s.flowComplete .go
        = ((s.setRouter { s.router with flow := flowCompleted s.router.flow .go, inFlight := none }).askNotice
            (.flow .goSent)).evaluateFlow

/-- ROUTING (R19): with all four values in their sets the four settings change together, the flow state is evaluated and the
answer is ACCEPTED; with any value outside its set nothing changes and the answer is REFUSED, OUT-OF-RANGE. The local-mode
flag stays. -/
def Obligations.RoutingRequest : Prop :=
  ∀ (s : State) (m : Moment) (src : Addr) (d t c e : Byte), s.Takes src →
    let u := s.heard m.t
    (d.toNat ≤ 1 → t.toNat ≤ 2 → c.toNat ≤ 2 → e.toNat ≤ 1 →
        ∃ r : Routing,
          r = { duplex := if d = 0 then .full else .half
                target := if t = 0 then .line else if t = 1 then .controller else .both
                copy := if c = 0 then .print else if c = 1 then .controller else .both
                echo := decide (e = 1) }
            ∧ exec (.routing m src [d, t, c, e]) s
              = .next (State.reviewed s
                  (((u.setRouter { u.router with routing := r }).evaluateFlow.arrival).reply src kindRouting .accepted)))
      ∧ (1 < d.toNat ∨ 2 < t.toNat ∨ 2 < c.toNat ∨ 1 < e.toNat →
          exec (.routing m src [d, t, c, e]) s
            = .next (State.reviewed s (u.reply src kindRouting (.refused .outOfRange))))

/-- PRINT TEXT (R26): BUSY with NO-ROOM above PRQ's cap or at the low-mark floor, an empty body apart, and nothing changes;
otherwise the body is stored whole behind PRQ's cells, its first cell with the pending loss, and the answer is ACCEPTED. -/
def Obligations.PrintTextRequest : Prop :=
  ∀ (s : State) (m : Moment) (src : Addr) (body : List Byte), s.Takes src → s.pool.Law →
    let u := s.heard m.t
    let need := blocksNeeded body.length (tailRoom s.pool.prq)
    let noRoom := body ≠ [] ∧ (Config.prqCap < s.pool.prq.length + need ∨ s.pool.free.length - need ≤ s.msg.setup.lowMark)
    (noRoom →
        exec (.printText m src body) s = .next (State.reviewed s (u.reply src kindPrintText (.busy .noRoom))))
      ∧ (¬ noRoom →
          ∃ p, exec (.printText m src body) s
              = .next (State.reviewed s (((u.changePool p).openImage.arrival).reply src kindPrintText .accepted))
            ∧ chainCells p.prq = chainCells s.pool.prq ++ bodyCells s.pool.prqLost body
            ∧ p = { s.pool with
                free := s.pool.free.drop need, prq := p.prq, prqLost := s.pool.prqLost && body.isEmpty }
            ∧ p.prq.length = s.pool.prq.length + need)

/-- SEND TEXT (R27): REFUSED, OFFLINE outside ONLINE and FADING, an empty body too; BUSY, NO-ROOM above TXQ's cap or at the
low-mark floor; otherwise the body is stored whole behind TXQ's cells and the answer is ACCEPTED, whatever becomes of its
echo, which is stored whole in PRQ by the pool's own test or dropped whole with the loss marked. -/
def Obligations.SendTextRequest : Prop :=
  ∀ (s : State) (m : Moment) (src : Addr) (body : List Byte), s.Takes src → s.pool.Law →
    let u := s.heard m.t
    let need := blocksNeeded body.length (tailRoom s.pool.txq)
    let noRoom := body ≠ [] ∧ (Config.txqCap < s.pool.txq.length + need ∨ s.pool.free.length - need ≤ s.msg.setup.lowMark)
    (s.call.st ≠ .online → s.call.st ≠ .fading →
        exec (.sendText m src body) s = .next (State.reviewed s (u.reply src kindSendText (.refused .offline))))
      ∧ (s.call.st = .online ∨ s.call.st = .fading →
          (noRoom → exec (.sendText m src body) s = .next (State.reviewed s (u.reply src kindSendText (.busy .noRoom))))
            ∧ (¬ noRoom →
                ∃ p, exec (.sendText m src body) s
                    = .next (State.reviewed s
                        ((((u.changePool p).echoBody body).openImage.arrival).reply src kindSendText .accepted))
                  ∧ chainCells p.txq = chainCells s.pool.txq ++ bodyCells false body
                  ∧ p = { s.pool with free := s.pool.free.drop need, txq := p.txq }
                  ∧ p.txq.length = s.pool.txq.length + need))
      ∧ (∀ v : State, v.router.routing.echo = false → v.echoBody body = v)
      ∧ (∀ v : State, v.router.routing.echo = true →
          (v.pool.storeBody .prq body = none → v.echoBody body = v.setPool { v.pool with prqLost := true })
            ∧ ∀ q, v.pool.storeBody .prq body = some q → v.echoBody body = v.changePool q)

/-- Every received character or break goes to the destinations of receive copy, each on its own (R21): where the chain can
store it the cell is stored, and where it cannot the chain's lost-pending flag is set. In listen-only FWQ is no destination.
(That PRQ is served before FWQ where both are destinations is the model's choice, which R8 and R21 leave open: log entry
47.) -/
def Obligations.ReceivedItemRouted : Prop :=
  ∀ (s : State) (cell : Cell),
    (∀ c : Chain, ∀ p, s.pool.store c cell = some p → s.offerReceived c cell = s.changePool p)
      ∧ (∀ c : Chain, s.pool.store c cell = none → s.offerReceived c cell = s.setPool (s.pool.setLost c true))
      ∧ s.routeReceived cell
          = (match s.router.routing.copy, s.line.listenOnly with
              | .print, _ => s.offerReceived .prq cell
              | .controller, false => s.offerReceived .fwq cell
              | .controller, true => s
              | .both, false => (s.offerReceived .prq cell).offerReceived .fwq cell
              | .both, true => s.offerReceived .prq cell).openImage.arrival

/-- The Beeper (R34, R35): the cases of a sound asked for while another is current, and the sound's end, which makes the
current sound none and changes nothing else but the time. -/
def Obligations.SoundTable : Prop :=
  (∀ (s : State) (d : Nat), s.beeper.ends = some d →
    exec .soundEnd s = .next ((s.advanceTo d).setBeeper { sound := .none, started := 0, ends := none })) ∧
  ∀ s : State,
    let starts (x : Sound) (us : Nat) := s.setBeeper { sound := x, started := s.now, ends := some (s.now + us) }
    (s.beeper.sound = .none ∨ s.beeper.sound = .click → s.askSound .click = starts .click 5000)
      ∧ (s.beeper.sound = .bell ∨ s.beeper.sound = .error → s.askSound .click = s)
      ∧ s.askSound .bell = starts .bell 200000
      ∧ s.askSound .error = starts .error 180000

/-! ## The Keyboard Scanner -/

/-- A scan (R38, R39): the next one is due 5 ms after it (log entry 9), and at each position a reading that agrees with the
debounced level clears the count, and one that differs raises it, the third in a row changing the level. Then, in this order
and each in ascending positions: the releases of this scan (R40), the promotion tests of the positions that were BLOCKED and
are still pressed (R42), and the presses completed by this scan (R41). -/
def Obligations.ScanDebounces : Prop :=
  ∀ (s : State) (keys : Matrix) (sense : Sense) (d : Nat), s.kbd.scanTimer = some d → s.kbd.keys.length = 72 →
    ∃ (v t : State) (released blocked pressed : List Nat),
      let u := s.advanceTo d
      let at_ (test : KeyPos → KeyPos → Prop) (p : Nat) :=
        ∃ k k', s.kbd.keys[p]? = some k ∧ v.kbd.keys[p]? = some k' ∧ test k k'
      v = (u.setKbd { u.kbd with scanTimer := some (u.now + 5000), keys := v.kbd.keys }).setPins { u.pins with keys := keys }
        ∧ v.kbd.keys.length = 72
        ∧ (∀ p k, s.kbd.keys[p]? = some k →
            ∃ k', v.kbd.keys[p]? = some k' ∧ k'.st = k.st
              ∧ (keys.getLsbD p = k.level → k'.level = k.level ∧ k'.count = 0)
              ∧ (keys.getLsbD p ≠ k.level → k.count = 2 → k'.level = keys.getLsbD p ∧ k'.count = 0)
              ∧ (keys.getLsbD p ≠ k.level → k.count ≠ 2 → k'.level = k.level ∧ k'.count = k.count + 1))
        ∧ released.Pairwise (· < ·) ∧ blocked.Pairwise (· < ·) ∧ pressed.Pairwise (· < ·)
        ∧ (∀ p, p ∈ released ↔ at_ (fun k k' => k.level = true ∧ k'.level = false) p)
        ∧ (∀ p, p ∈ blocked ↔ at_ (fun k k' => k.st = .blocked ∧ k'.level = true) p)
        ∧ (∀ p, p ∈ pressed ↔ at_ (fun k k' => k.level = false ∧ k'.level = true) p)
        ∧ t = pressed.foldl (fun x p => x.judgePress p sense)
            (blocked.foldl (fun x p => x.testBlocked p sense) (released.foldl (fun x p => x.keyUp p sense) v))
        ∧ exec (.keyboardScan keys sense) s = .next (State.reviewed s t)

/-- A completed press is judged (R41): BLOCKED without an event behind three DOWN corners of a rectangle, and otherwise DOWN,
with its position the repeat candidate (R47) and its event handled. A BLOCKED position tested again stays BLOCKED behind such a
rectangle and otherwise goes DOWN as if newly pressed (R42). A release makes a DOWN position UP with its event, ending its
repeat if it is the candidate (R47), and a BLOCKED one UP with none (R40). -/
def Obligations.PressJudged : Prop :=
  ∀ (s : State) (pos : Nat) (sense : Sense), pos < 72 →
    let corners := ∃ r c, r < 8 ∧ c < 9 ∧ r ≠ pos / 9 ∧ c ≠ pos % 9
      ∧ s.kbd.isDown (9 * (pos / 9) + c) = true ∧ s.kbd.isDown (9 * r + pos % 9) = true ∧ s.kbd.isDown (9 * r + c) = true
    let goesDown :=
      (s.setKbd { s.kbd.setState pos .down with
          candidate := some pos
          repeatTimer := if (keyAt pos).isCharacter = true ∨ keyAt pos = .paperFeed
            then some (s.now + s.msg.setup.repeatDelay * 1000) else none }).keyEvent pos .down sense
    let up := s.kbd.setState pos .up
    (corners → s.judgePress pos sense = s.setKbd (s.kbd.setState pos .blocked))
      ∧ (¬ corners → s.judgePress pos sense = goesDown)
      ∧ (corners → s.testBlocked pos sense = s)
      ∧ (¬ corners → s.testBlocked pos sense = goesDown)
      ∧ (s.kbd.isDown pos = true → s.kbd.candidate = some pos →
          s.keyUp pos sense = (s.setKbd { up with candidate := none, repeatTimer := none }).keyEvent pos .up sense)
      ∧ (s.kbd.isDown pos = true → s.kbd.candidate ≠ some pos →
          s.keyUp pos sense = (s.setKbd up).keyEvent pos .up sense)
      ∧ (s.kbd.isDown pos = false → s.keyUp pos sense = s.setKbd up)

/-- A key event is handled in this order (R49): its effect on the modifiers, of which CAPS LOCK's DOWN toggles caps lock (R44);
the click of a DOWN event; its record, with the modifiers then in force, offered to the key FIFO where R50 lets it in; its
character to the Router, in RUN alone (R56); and the action of a special key: BREAK sends a break in ONLINE with none in
progress and otherwise beeps (R53), LOCAL toggles local mode (R54), and PAPER FEED, at REPEAT events too, makes a blank text
line with the engine IDLE and no image, or an empty one, OPEN, and otherwise beeps (R55). Which records enter the FIFO, and what
becomes of a record offered to it (R50, R52). The translation of keys (R45, R46), with the code that CTRL makes of a letter's,
digit's or punctuation key's code. The repeat timer's end (R48): a REPEAT event of the candidate, and the timer again for
1,000,000 ÷ rate µs, rounded. -/
def Obligations.KeyEvents : Prop :=
  (∀ (s : State) (pos : Nat) (event : KeyEvent) (sense : Sense),
    let caps := if keyAt pos = .capsLock ∧ event = .down then !s.kbd.caps else s.kbd.caps
    let shift := s.kbd.isDown 54 || s.kbd.isDown 65
    let ctrl := s.kbd.isDown 36
    let code := if event = .up then none else (keyAt pos).translate shift ctrl caps
    let record : KeyRecord :=
      { pos := pos, event := event, shift := shift, ctrl := ctrl, caps := caps, code := code, lostBefore := false }
    let s1 := s.setKbd { s.kbd with caps := caps }
    let s2 := if event = .down ∧ s.msg.setup.click = true then s1.askSound .click else s1
    let s3 := if s.recordsKey pos = true then s2.offerRecord record else s2
    let s4 := match code with
      | some c => if s.msg.op = .run then s3.keyedChar c else s3
      | none => s3
    let breakFree := s4.call.st = .online ∧ s4.call.breakInProgress = false
    let feedFree := s4.eng.st = .idle ∧ ∀ id, s4.asm.openId = some id → (s4.asm.image id).isEmpty = true
    let fed := (s4.setEng { s4.eng with run := some { image := none, line := 0, dot := 0 } }).setAsm
      { s4.asm with committed := s4.asm.committed + 1 }
    (keyAt pos = .breakKey → event = .down → breakFree → s.keyEvent pos event sense = s4.takeBreak)
      ∧ (keyAt pos = .breakKey → event = .down → ¬ breakFree → s.keyEvent pos event sense = s4.askSound .error)
      ∧ (keyAt pos = .localKey → event = .down →
          s.keyEvent pos event sense = s4.setRouter { s4.router with localMode := !s4.router.localMode })
      ∧ (keyAt pos = .paperFeed → event ≠ .up → feedFree → s4.eng.holds.any = false → s4.eng.inProgress = none →
          s.keyEvent pos event sense = fed.workTest sense)
      ∧ (keyAt pos = .paperFeed → event ≠ .up → ¬ feedFree → s.keyEvent pos event sense = s4.askSound .error)
      ∧ ((keyAt pos).isSpecial = false ∨ event = .up ∨ (event = .again ∧ keyAt pos ≠ .paperFeed) →
          s.keyEvent pos event sense = s4)) ∧
  ((∀ (s : State) (pos : Nat), s.recordsKey pos = true ↔
      s.line.listenOnly = false ∧
        (s.msg.op = .start ∨ s.router.routing.target ≠ .line
          ∨ keyAt pos = .breakKey ∨ keyAt pos = .localKey ∨ keyAt pos = .paperFeed))
    ∧ ∀ (s : State) (r : KeyRecord),
        (s.kbd.fifo.length < 16 →
            s.offerRecord r
              = s.setKbd { s.kbd with fifo := s.kbd.fifo ++ [{ r with lostBefore := s.kbd.keyLost }], keyLost := false })
          ∧ (16 ≤ s.kbd.fifo.length → s.kbd.keyLost = true → s.offerRecord r = s)
          ∧ (16 ≤ s.kbd.fifo.length → s.kbd.keyLost = false →
              s.offerRecord r = (s.setKbd { s.kbd with keyLost := true }).askNotice .keyLost)) ∧
  (∀ (shift ctrl caps : Bool),
    let under (code : Byte) : Option Byte :=
      if ctrl = false then some code
      else if 0x40 ≤ code.toNat ∧ code.toNat ≤ 0x5F then some (code - 0x40)
      else if 0x61 ≤ code.toNat ∧ code.toNat ≤ 0x7A then some (code - 0x60) else none
    (∀ code, (Key.letter code).translate shift ctrl caps
        = under (if shift = true ∨ caps = true then code - 0x20 else code))
      ∧ (∀ plain shifted, (Key.symbol plain shifted).translate shift ctrl caps
          = under (if shift = true then shifted else plain))
      ∧ (∀ code, (Key.named code).translate shift ctrl caps = some code)
      ∧ (∀ k : Key, k.isCharacter = false → k.translate shift ctrl caps = none)) ∧
  ∀ (s : State) (sense : Sense) (d pos : Nat), s.kbd.repeatTimer = some d → s.kbd.candidate = some pos →
    let u := s.advanceTo d
    exec (.repeatTimerExpiry sense) s
      = .next (State.reviewed s ((u.setKbd { u.kbd with
          repeatTimer := some (u.now + (2 * 1000000 + s.msg.setup.repeatRate) / (2 * s.msg.setup.repeatRate)) }).keyEvent pos
            .again sense))

/-- A keyed character (R23, R24, R25): to PRQ alone in local mode; with target CONTROLLER to no chain and without a sound;
else to TXQ while the call is ONLINE or FADING, and in HALF duplex to PRQ too, where a failure is marked as lost. A key that
is not stored gets the error beep. -/
def Obligations.KeyedCharacter : Prop :=
  ∀ (s : State) (code : Byte),
    (s.router.localMode = true →
        (s.storeCell .prq { code := code } = none → s.keyedChar code = s.askSound .error)
          ∧ ∀ v, s.storeCell .prq { code := code } = some v → s.keyedChar code = v.openImage.arrival)
      ∧ (s.router.localMode = false → s.router.routing.target = .controller → s.keyedChar code = s)
      ∧ (s.router.localMode = false → s.router.routing.target ≠ .controller →
          (s.call.st ≠ .online → s.call.st ≠ .fading → s.keyedChar code = s.askSound .error)
            ∧ (s.call.st = .online ∨ s.call.st = .fading →
                (s.storeCell .txq { code := code } = none → s.keyedChar code = s.askSound .error)
                  ∧ ∀ v, s.storeCell .txq { code := code } = some v →
                      (s.router.routing.duplex = .full → s.keyedChar code = v.openImage.arrival)
                        ∧ (s.router.routing.duplex = .half →
                            (v.storeCell .prq { code := code } = none →
                                s.keyedChar code = ((v.setPool { v.pool with prqLost := true }).openImage).arrival)
                              ∧ ∀ w, v.storeCell .prq { code := code } = some w → s.keyedChar code = w.openImage.arrival)))

/-- The key FIFO's law and the outbound queues' law are kept by every step (R51, R186, R187). -/
def Obligations.KeyAndQueueLawsKept : Prop :=
  (∀ s t : State, s.KeyLaw → step s = .next t → t.KeyLaw) ∧
  ∀ s t : State, s.QueueLaw → step s = .next t → t.QueueLaw

/-- A doze scan (R57, R98): the next one is due 50 ms later; a pressed position wakes the part, and so do both cups closed
while UNSEATED, the reading counting as the filter's first; an open cup while SEATED is noted without waking. (That a scan with
an open cup while UNSEATED leaves the filter's count is the model's choice: log entry 54.) -/
def Obligations.DozeScanRule : Prop :=
  ∀ (s : State) (keys : Matrix) (a b : Bool) (sense : Sense) (d : Nat), s.kbd.dozeTimer = some d →
    let v := s.advanceTo d
    let u := (v.setKbd { v.kbd with dozeTimer := some (v.now + 50000) }).setPins
      { v.pins with keys := keys, cupA := a, cupB := b }
    let w := (u.setCall { u.call with
      seated := false, filter := 0, st := if u.call.st = .ready then .idle else u.call.st }).askNotice
        (.handset false s.call.muted)
    (s.call.seated = (a && b) → keys = 0 →
        exec (.dozeScan keys a b sense) s = .next (State.reviewed s u))
      ∧ (s.call.seated = (a && b) → keys ≠ 0 →
          exec (.dozeScan keys a b sense) s = .next (State.reviewed s (u.wake sense)))
      ∧ (s.call.seated = false → (a && b) = true →
          exec (.dozeScan keys a b sense) s = .next (State.reviewed s ((u.setCall { u.call with filter := 1 }).wake sense)))
      ∧ (s.call.seated = true → (a && b) = false → keys = 0 →
          exec (.dozeScan keys a b sense) s = .next (State.reviewed s w))
      ∧ (s.call.seated = true → (a && b) = false → keys ≠ 0 →
          exec (.dozeScan keys a b sense) s = .next (State.reviewed s (w.wake sense)))

/-- Waking (R57, R98, R155, R170, R194): the part is in RUN, the 5 ms scans, the readings of the cups and the tick start again,
the neighbour table and the allowance record are emptied and the raise barrier runs for 1.0 s; the keys, the call, the pool and
the claims stay; each gather timer is started for its full length if its items are unsent (R183). A marker character that
completes in DOZE with the wave wakes the part if it names the part's own address, and any other is passed over. (That the
first scan, reading and tick come one period after the wake is the model's choice: log entry 9; so is that the marker's own
command wakes the part: log entry 26.) The sample at wake is taken last (R118, R155) and is judged by StartUp's rule, with the
record already empty, so that BATTERY-CRITICAL is not found (the model's choice: log entry 36). -/
def Obligations.WakeRule : Prop :=
  (∀ (s : State) (sense : Sense),
    let t := s.wake sense
    t.msg.op = .run
      ∧ t.kbd = { s.kbd with scanTimer := some (s.now + 5000), dozeTimer := none }
      ∧ t.call = { s.call with cupTimer := some (s.now + 1000) }
      ∧ t = (((((s.setMsg t.msg).setKbd t.kbd).setCall t.call).setBud t.bud).setEng { s.eng with
          watchTimer := some (s.now + 50000) }).sampleNow sense
      ∧ t.bud = { s.bud with
          table := [], record := none, barrierTimer := some (s.now + 1000000), tickTimer := some (s.now + 100000) }
      ∧ t.eng.vc = sense.vc ∧ t.eng.tc = sense.tc ∧ t.pins.paper = sense.paper ∧ t.pins.door = sense.door
      ∧ t.msg = { s.msg with
          op := .run
          keysTimer := if s.line.listenOnly then s.msg.keysTimer
            else if s.kbd.inMessage < s.kbd.fifo.length then some (s.now + 10000) else none
          textTimer := if s.line.listenOnly then s.msg.textTimer
            else if s.pool.fwqInMessage < (chainCells s.pool.fwq).length then some (s.now + 20000) else none }
      ∧ t.pool = s.pool ∧ t.router = s.router ∧ t.asm = s.asm ∧ t.mod = s.mod ∧ t.demod = s.demod ∧ t.beeper = s.beeper
      ∧ t.now = s.now ∧ t.pending = s.pending) ∧
  ∀ (s : State) (wave : Wave) (sense : Sense) (head : Byte), s.line.attempt = none →
    let h := s.hear wave
    let u := (s.advanceTo h.line.readTo).setLine h.line
    h.events = [(h.line.readTo, .marker head)] →
    (head.toNat / 16 = s.line.addr.toNat →
        exec (.markerCharacterInDoze wave sense) s = .next (State.reviewed s (u.wake sense)))
      ∧ (head.toNat / 16 ≠ s.line.addr.toNat →
          exec (.markerCharacterInDoze wave sense) s = .next (State.reviewed s u))

/-! ## The coupler's signal path -/

/-- A change of level on MIC (R64): ignored outside listening and in LOOP but for the pin; the first one sets the last crossing
time; a half-period is judged against the band heard, the high one in originate mode (R63), and a valid one sets the output and
is counted; a change from mark to space is the start edge that a sampler in HUNT takes (R66). (That a MIC edge reverses the
level of the pin is the model's choice: log entry 43.) -/
def Obligations.MicEdgeRule : Prop :=
  ∀ (s : State) (t : Nat),
    let v := s.advanceTo t
    let u := v.setPins { v.pins with mic := !v.pins.mic }
    (s.hearsHigh = true ↔ s.call.st ≠ .loop ∧ ∃ p, s.call.params = some p ∧ p.mode = .originate)
      ∧ (s.call.st = .idle ∨ s.call.st = .ready ∨ s.call.st = .dropping ∨ s.call.st = .loop → exec (.micEdge t) s = .next u)
      ∧ (s.call.st = .origWait ∨ s.call.st = .ansTone ∨ s.call.st = .online ∨ s.call.st = .fading →
          let timed := { u.demod with lastCrossing := some u.now }
          (s.demod.lastCrossing = none → exec (.micEdge t) s = .next (u.setDemod timed))
            ∧ ∀ last, s.demod.lastCrossing = some last →
                let us := u.now - last
                let mark := if s.hearsHigh then 200 ≤ us ∧ us ≤ 236 else 360 ≤ us ∧ us ≤ 430
                let space := if s.hearsHigh then 237 ≤ us ∧ us ≤ 280 else 431 ≤ us ∧ us ≤ 520
                (mark → exec (.micEdge t) s
                    = .next (u.setDemod { timed with output := true, windowCount := u.demod.windowCount + 1 }))
                  ∧ (space → ¬ (s.demod.output = true ∧ s.call.st = .online ∧ s.demod.sampler.st = .hunt) →
                      exec (.micEdge t) s
                        = .next (u.setDemod { timed with output := false, windowCount := u.demod.windowCount + 1 }))
                  ∧ (space → s.demod.output = true → s.call.st = .online → s.demod.sampler.st = .hunt →
                      exec (.micEdge t) s
                        = .next (u.setDemod { timed with
                            output := false
                            windowCount := u.demod.windowCount + 1
                            sampler := { u.demod.sampler with
                              st := .assemble, baudAcc := 0, due := 0, sample := 0, bit := 0, confirmed := false, trio := [],
                              bits := [], noise := false } }))
                  ∧ (¬ mark → ¬ space → exec (.micEdge t) s = .next (u.setDemod timed)))

/-- The end of a carrier window (R65), with its verdict as the Call Controller takes it: qualification in ORIG-WAIT and ANS-
TONE at a present run of 15 (R83), the fade timer and FADING in ONLINE (R84), the return from FADING (R85). In FADING the
sampler stands in WAIT-MARK while its baud accumulator runs on (R61, R70); a character in assembly at entry to FADING, its
start bit confirmed or held in FRAMING-HELD, is discarded and its loss marked in each destination of receive copy, FWQ only
while the part is not listen-only, and a start edge not confirmed marks none (R13, R70). The sampler starts in WAIT-MARK with
its baud accumulator and its break count at 0 (R66); the modulator begins to sound mark of its band from phase 0 (R59, R71). -/
def Obligations.WindowEndRule : Prop :=
  (∀ (s : State) (d : Nat), s.demod.windowTimer = some d →
    let u := s.advanceTo d
    let present := if s.hearsHigh then decide (28 ≤ s.demod.windowCount) else decide (15 ≤ s.demod.windowCount)
    exec .carrierWindowEnd s
      = .next (State.reviewed s ((u.setDemod { u.demod with
          windowCount := 0
          windowTimer := some (u.now + 10000)
          presentRun := if present then min 15 (u.demod.presentRun + 1) else 0
          absentRun := if present then 0 else min 15 (u.demod.absentRun + 1) }).verdict present))) ∧
  (∀ (v : State) (present : Bool),
    (v.call.st = .origWait ∨ v.call.st = .ansTone → v.demod.presentRun ≠ 15 → v.verdict present = v)
      ∧ (∀ p, v.call.params = some p → v.demod.presentRun = 15 →
          (v.call.st = .origWait →
              v.verdict present
                = (((v.setCall { v.call with st := .online, carrierWait := none, fade := none }).startCarrier.samplerStart
                    |>.evaluateFlow).askNotice (.carrierUp p)).arrival)
            ∧ (v.call.st = .ansTone →
              v.verdict present
                = (((v.setCall { v.call with st := .online, carrierWait := none, fade := none }).samplerStart
                    |>.evaluateFlow).askNotice (.carrierUp p)).arrival))
      ∧ (v.call.st = .online → present = true → v.verdict present = v.setCall { v.call with fade := none })
      ∧ (v.call.st = .online → present = false → v.demod.absentRun = 1 →
          v.verdict present = v.setCall { v.call with fade := some (v.now + v.msg.setup.fadeLimit * 1000) })
      ∧ (v.call.st = .online → present = false → v.demod.absentRun = 3 →
          let a := v.demod.sampler
          let assembling := (a.st = .assemble ∧ a.confirmed = true) ∨ a.st = .framingHeld
          let printer := v.router.routing.copy ≠ .controller
          let controller := v.router.routing.copy ≠ .print ∧ v.line.listenOnly = false
          ∃ p : Pool,
            (assembling → p = { v.pool with
                prqLost := v.pool.prqLost || decide printer, fwqLost := v.pool.fwqLost || decide controller })
              ∧ (¬ assembling → p = v.pool)
              ∧ v.verdict present = ((v.setPool p).setDemod { v.demod with
                  sampler := { Sampler.reset with baudAcc := a.baudAcc } }).setCall { v.call with st := .fading })
      ∧ (v.call.st = .online → present = false → v.demod.absentRun ≠ 1 → v.demod.absentRun ≠ 3 → v.verdict present = v)
      ∧ (v.call.st = .fading → present = true → v.demod.presentRun = 3 →
          v.verdict present = ((v.setCall { v.call with st := .online, fade := none }).samplerStart.evaluateFlow).arrival)
      ∧ (v.call.st = .fading → (present = false ∨ v.demod.presentRun ≠ 3) → v.verdict present = v)) ∧
  ∀ v : State,
    v.samplerStart = v.setDemod { v.demod with sampler := {
      st := .waitMark, baudAcc := 0, due := 0, sample := 0, bit := 0, confirmed := false, trio := [], bits := []
      noise := false, breakCount := 0 } }
      ∧ ∀ p, v.call.params = some p →
          v.startCarrier = v.setMod { v.mod with
            st := .carrier, phase := 0, increment := if p.mode = .originate then 2601 else 4557, frame := none }

/-- The receive sampler at one sample (R66 to R69): the threshold of space samples makes a break in every state but BREAK-
SUPPRESS; below it each state has its move. In ASSEMBLE the samples of a bit are numbered 1 to 16, of which 7, 8 and 9 are kept
and the ninth takes the bit. The character gathered has the data bits, least significant first, and its flags: a parity bit
other than the one that FrameSent gives its code, the first stop bit, and any bit without three equal samples (R67). A frame's
length, and the break threshold of two frames of samples (R62, R69). -/
def Obligations.SamplerRule : Prop :=
  (∀ (a : Sampler) (f : Format),
    let idle (st : SamplerState) (count : Nat) : Sampler :=
      { a with st := st, breakCount := count, sample := 0, bit := 0, confirmed := false, trio := [], bits := [],
               noise := false }
    (a.st ≠ .breakSuppress → f.breakThreshold ≤ a.breakCount + 1 →
        a.read f false = (idle .breakSuppress (a.breakCount + 1), .lineBreak))
      ∧ (a.st = .breakSuppress → a.read f false = (a, .nothing))
      ∧ (a.st = .waitMark ∨ a.st = .breakSuppress → a.read f true = (idle .hunt 0, .nothing))
      ∧ (a.st = .hunt → a.read f true = ({ a with breakCount := 0 }, .nothing))
      ∧ (a.st = .framingHeld → a.read f true = (idle .hunt 0, .char (a.gathered f true)))
      ∧ (a.st = .waitMark ∨ a.st = .hunt ∨ a.st = .framingHeld → a.breakCount + 1 < f.breakThreshold →
          a.read f false = ({ a with breakCount := a.breakCount + 1 }, .nothing))
      ∧ (a.st = .assemble → ∀ x y z : Bool, a.trio = [x, y] → a.sample = 8 →
          (z = true ∨ a.breakCount + 1 < f.breakThreshold) →
          let mark := (x && y) || (x && z) || (y && z)
          let b := { a with sample := 9, breakCount := if z then 0 else a.breakCount + 1 }
          let noisy := a.noise || !(x == y && y == z)
          (a.bit = 0 → mark = true → a.read f z = (idle .hunt (if z then 0 else a.breakCount + 1), .nothing))
            ∧ (a.bit = 0 → mark = false → a.read f z = ({ b with confirmed := true, noise := noisy, trio := [] }, .nothing))
            ∧ (a.bit ≠ 0 → a.bit ≤ f.data.bits + f.data.hasParity.toNat →
                a.read f z = ({ b with bits := a.bits ++ [mark], noise := noisy, trio := [] }, .nothing))
            ∧ (f.data.bits + f.data.hasParity.toNat < a.bit → mark = true →
                a.read f z = (idle .hunt (if z then 0 else a.breakCount + 1), .char ({ a with noise := noisy }.gathered f false)))
            ∧ (f.data.bits + f.data.hasParity.toNat < a.bit → mark = false →
                a.read f z = ({ b with st := .framingHeld, noise := noisy, trio := [] }, .nothing)))
      ∧ (a.st = .assemble → ∀ z : Bool, (z = true ∨ a.breakCount + 1 < f.breakThreshold) →
          let b := { a with breakCount := if z then 0 else a.breakCount + 1 }
          (a.sample = 6 ∨ a.sample = 7 →
              a.read f z = ({ b with sample := a.sample + 1, trio := a.trio ++ [z] }, .nothing))
            ∧ (a.sample < 6 ∨ (8 < a.sample ∧ a.sample < 15) → a.read f z = ({ b with sample := a.sample + 1 }, .nothing))
            ∧ (15 ≤ a.sample → a.read f z = ({ b with sample := 0, bit := a.bit + 1 }, .nothing)))) ∧
  ∀ (a : Sampler) (f : Format) (framing : Bool),
    let c := a.gathered f framing
    (∀ i, i < 8 → c.code.getLsbD i = (decide (i < f.data.bits) && (a.bits[i]?).getD false))
      ∧ (c.parity = true ↔ f.data.hasParity = true ∧ a.bits[7]? ≠ (frameBits f c.code)[8]?)
      ∧ c.framing = framing ∧ c.noise = a.noise ∧ c.lostBefore = false ∧ c.lineBreak = false
      ∧ f.data.bits = (if f.data = .eight then 8 else 7)
      ∧ (f.data.hasParity = true ↔ f.data ≠ .seven ∧ f.data ≠ .eight)
      ∧ f.frameLength = 1 + f.data.bits + f.data.hasParity.toNat + (if f.stop = .one then 1 else 2)
      ∧ f.breakThreshold = 32 * f.frameLength

/-- Sample events (R66, R67, R69, R77): a sample that brings nothing to light changes the sampler alone; in ONLINE one that
delivers a character hands it to the Router, one that detects a break hands over a BREAK cell and asks for a BREAK-RECEIVED
notice; in LOOP each is compared with the test character of its place. A received item that matches a flow code (R22, R33) is
not stored: it sets or clears the remote-stopped flag and asks for a FLOW notice, and a go code may let text go out; any other
is routed. A match is tested with flow control enabled, on an item without a bad parity or stop bit that is no BREAK, and in a
7-data-bit format against the low seven bits of the codes (that codes which agree there match as the stop code is the model's
choice, log entry 48). The sample that is read: the next overflow of the sampler's baud accumulator, one already counted at
once (R61; that an overflow is counted and is read at its command, with the demodulator's output as it stands then, is the
model's choice: log entry 42), by SamplerRule, in the format of the call, or in LOOP in that of the test, 8 data bits and one
stop bit (R75); the test characters are 55h, AAh, then 00h and so on (R76). -/
def Obligations.SampleEvents : Prop :=
  (∀ (s u : State),
    (s.call.st = .online ∨ s.call.st = .loop → s.sampleOnce = (u, .nothing) → exec .receiveSampleEvent s = .next u)
      ∧ (s.call.st = .online → ∀ cell, s.sampleOnce = (u, .char cell) →
          exec .receiveSampleEvent s = .next (State.reviewed s (u.receiveItem cell))
            ∧ exec .receivedCharacter s = .next (State.reviewed s (u.receiveItem cell)))
      ∧ (s.call.st = .online → s.sampleOnce = (u, .lineBreak) →
          let t := (u.routeReceived { code := 0, lineBreak := true }).askNotice (.breakReceived 1)
          exec .receiveSampleEvent s = .next (State.reviewed s t) ∧ exec .receivedBreak s = .next (State.reviewed s t))
      ∧ (s.call.st = .loop → ∀ l r, u.mod.test = some l → s.sampleOnce = (u, r) → r ≠ .nothing → l.recovered < 32 →
          let matched := match r with
            | .char cell => cell.code = testChar l.recovered ∧ cell.framing = false
            | _ => False
          ∃ l', exec .receiveSampleEvent s
              = .next (State.reviewed s (u.setMod { u.mod with test := some { l with
                  recovered := l.recovered + 1, mismatched := l' } }))
            ∧ (matched → l' = l.mismatched) ∧ (¬ matched → l' = l.mismatched + 1))) ∧
  (∀ (s : State) (cell : Cell),
    let seven := ∃ p, s.call.params = some p ∧ p.fmt.data ≠ .eight
    let tested := s.msg.setup.flowEnable = true ∧ cell.parity = false ∧ cell.framing = false ∧ cell.lineBreak = false
    let isCode (code : Byte) := (seven ∧ cell.code = code &&& 0x7F) ∨ (¬ seven ∧ cell.code = code)
    (tested → isCode s.msg.setup.stopCode →
        s.receiveItem cell
          = ((s.setRouter { s.router with remoteStopped := true }).askNotice (.flow .stopReceived)).arrival)
      ∧ (tested → ¬ isCode s.msg.setup.stopCode → isCode s.msg.setup.goCode →
          s.receiveItem cell
            = ((s.setRouter { s.router with remoteStopped := false }).askNotice (.flow .goReceived)).arrival)
      ∧ (¬ tested ∨ (¬ isCode s.msg.setup.stopCode ∧ ¬ isCode s.msg.setup.goCode) →
          s.receiveItem cell = s.routeReceived cell)) ∧
  (∀ (s : State) (f : Format) (t : Nat),
    (s.call.st = .loop ∧ f = { rate := .b300, data := .eight, stop := .one })
      ∨ (s.call.st ≠ .loop ∧ ∃ p, s.call.params = some p ∧ f = p.fmt) →
    let step := match f.rate with
      | .b110 => 29528
      | .b150 => 40265
      | .b300 => 80531
    let events (t : Nat) := s.demod.sampler.due + (s.demod.sampler.baudAcc.toNat + (t - s.now) * step) / 2 ^ 24
    s.now ≤ t → 1 ≤ events t → (∀ x, s.now ≤ x → x < t → events x = 0) →
    let v := s.advanceTo t
    let r := { v.demod.sampler with due := v.demod.sampler.due - 1 }.read f v.demod.output
    s.sampleOnce = (v.setDemod { v.demod with sampler := r.1 }, r.2)) ∧
  ∀ n : Nat, n < 32 → testChar n = (if n = 0 then 0x55 else if n = 1 then 0xAA else BitVec.ofNat 8 (n - 2))

/-- What is begun at a character boundary (R72): in ONLINE, not muted and with no break waiting or being sent, a pending flow
code, else the head of TXQ unless the remote-stopped flag is set, else steady mark. A frame begins with its start bit at space;
its bits are those FrameSent gives; from CARRIER its bit clock starts afresh, and after a frame it runs on (R61, R72; that a
frame after a break's guard starts afresh too is read from them: log entry 33). Steady mark and the break's space tone, for 250
ms (R58, R73). Something to send that arrives finds a boundary only in CARRIER, once, after all that its step made ready (log
entry 21). A code is pending while the outbound flow asks for it and the modulator has not begun it (R30, R31). -/
def Obligations.BoundaryChoice : Prop :=
  (∀ (s : State) (p : CallParams) (fromCarrier : Bool), s.call.params = some p →
    let free := s.call.st = .online ∧ s.call.muted = false ∧ s.call.breakInProgress = false
    (¬ free → s.chooseNext fromCarrier = s.toCarrier)
      ∧ (free → ∀ c, s.router.pendingCode = some c →
          s.chooseNext fromCarrier
            = (s.setRouter { s.router with inFlight := some c }).beginFrame p.fmt
                (match c with
                  | .stop => s.msg.setup.stopCode
                  | .go => s.msg.setup.goCode) (.flow c) fromCarrier)
      ∧ (free → s.router.pendingCode = none → s.router.remoteStopped = true → s.chooseNext fromCarrier = s.toCarrier)
      ∧ (free → s.router.pendingCode = none → s.router.remoteStopped = false →
          (s.takeCell .txq = none → s.chooseNext fromCarrier = s.toCarrier)
            ∧ ∀ cell v, s.takeCell .txq = some (cell, v) →
                s.chooseNext fromCarrier = v.beginFrame p.fmt cell.code .cell fromCarrier)) ∧
  (∀ (v : State) (p : CallParams), v.call.params = some p →
    let mark := if p.mode = .originate then 2601 else 4557
    let space := if p.mode = .originate then 2191 else 4147
    (∀ fmt code kind fromCarrier,
        v.beginFrame fmt code kind fromCarrier = v.setMod { v.mod with
          st := .character
          frame := some { code := code, kind := kind, bits := frameBits fmt code, bit := 0 }
          increment := space
          baudAcc := if fromCarrier then 0 else v.mod.baudAcc
          bitSamples := if fromCarrier then 0 else v.mod.bitSamples })
      ∧ markIncrement v.mode = mark ∧ spaceIncrement v.mode = space
      ∧ v.toCarrier = v.setMod { v.mod with st := .carrier, frame := none, increment := mark }
      ∧ v.startBreak = v.setMod { v.mod with
          st := .breakSpace, frame := none, increment := space, breakTimer := some (v.now + 250000) }) ∧
  (∀ v : State, (v.mod.st = .carrier → v.arrival = v.chooseNext true) ∧ (v.mod.st ≠ .carrier → v.arrival = v)) ∧
  ∀ r : Router,
    (r.flow = .pendingStop → r.inFlight ≠ some .stop → r.pendingCode = some .stop)
      ∧ (r.flow = .pendingStop → r.inFlight = some .stop → r.pendingCode = none)
      ∧ (r.flow = .pendingGo → r.inFlight = none → r.pendingCode = some .go)
      ∧ (r.flow = .pendingGo → r.inFlight ≠ none → r.pendingCode = none)
      ∧ (r.flow = .clear ∨ r.flow = .stopped → r.pendingCode = none)

/-- A frame's bits (R62): start, the data bits least significant first, the parity bit if there is one, the stop bits; the
parity bit makes the number of ones even or odd, or is fixed. The bits of a frame on the line (R72): each next bit with its
tone; at the end of the last stop bit a flow code is complete, a waiting break begins, and otherwise the next choice is made;
an arrival in CARRIER is a boundary too. A bit ends at the first µs at which sixteen sample events have fallen since it began,
at the rate of the call, or in LOOP of the test (R61, R75; log entry 31), and the tones of the bits are those of the mode's
band (R58). -/
def Obligations.FrameSent : Prop :=
  (∀ (f : Format) (code : Byte),
    (frameBits f code).length = f.frameLength
      ∧ (frameBits f code)[0]? = some false
      ∧ (∀ i, i < f.data.bits → (frameBits f code)[1 + i]? = some (code.getLsbD i))
      ∧ (∀ i, 1 + f.data.bits + f.data.hasParity.toNat ≤ i → i < f.frameLength → (frameBits f code)[i]? = some true)
      ∧ (∀ p, (frameBits f code)[8]? = some p →
          (f.data = .sevenEven → (onesIn7 code + p.toNat) % 2 = 0)
            ∧ (f.data = .sevenOdd → (onesIn7 code + p.toNat) % 2 = 1)
            ∧ (f.data = .sevenMark → p = true)
            ∧ (f.data = .sevenSpace → p = false))) ∧
  (∀ s : State,
    (∀ f b, s.mod.test = none → s.mod.frame = some f → f.bits[f.bit + 1]? = some b →
        let u := s.advanceTo s.bitEnd
        exec .frameBitStart s = .next (u.setMod { u.mod with
          frame := some { f with bit := f.bit + 1 }, increment := bitIncrement s.mode b,
          bitSamples := u.mod.bitSamples - 16 }))
      ∧ (∀ f, s.mod.frame = some f → f.bit + 1 = f.bits.length →
          let u := s.advanceTo s.bitEnd
          let ended (v : State) : State := v.setMod { v.mod with frame := none, bitSamples := v.mod.bitSamples - 16 }
          (s.call.breakInProgress = false → f.kind = .cell →
              exec .characterBoundary s = .next ((ended u).chooseNext false))
            ∧ (s.call.breakInProgress = true → f.kind = .cell →
                exec .characterBoundary s = .next ((ended u).startBreak))
            ∧ (∀ c, s.call.breakInProgress = false → f.kind = .flow c →
                exec .characterBoundary s = .next ((ended (u.flowComplete c)).chooseNext false))
            ∧ (∀ c, s.call.breakInProgress = true → f.kind = .flow c →
                exec .characterBoundary s = .next ((ended (u.flowComplete c)).startBreak)))
      ∧ (s.mod.frame = none → s.mod.st = .carrier → exec .characterBoundary s = .next (s.chooseNext true))) ∧
  (∀ (s : State) (f : Format),
    (s.call.st = .loop ∧ f = { rate := .b300, data := .eight, stop := .one })
      ∨ (s.call.st ≠ .loop ∧ ∃ p, s.call.params = some p ∧ f = p.fmt) →
    let step := match f.rate with
      | .b110 => 29528
      | .b150 => 40265
      | .b300 => 80531
    let events (t : Nat) := s.mod.bitSamples + (s.mod.baudAcc.toNat + (t - s.now) * step) / 2 ^ 24
    s.baudStep = step
      ∧ s.now ≤ s.bitEnd ∧ 16 ≤ events s.bitEnd ∧ ∀ t, s.now ≤ t → t < s.bitEnd → events t < 16) ∧
  ∀ (s : State) (p : CallParams) (b : Bool), s.call.params = some p →
    bitIncrement s.mode b
      = (match p.mode, b with
          | .originate, true => 2601
          | .originate, false => 2191
          | .answer, true => 4557
          | .answer, false => 4147)

/-- A break (R73, R91): BREAK in ONLINE with none in progress sets the flag, and from CARRIER the space begins at once for 250
ms; with one in progress it is BUSY, and elsewhere it is refused. The space is followed by 50 ms of mark, and the guard's end
clears the flag and is a character boundary (that the frame begun there starts with a fresh baud accumulator, as from CARRIER,
is the model's choice: log entry 33). -/
def Obligations.BreakSent : Prop :=
  (∀ (s : State) (m : Moment) (src : Addr), s.Takes src →
    let u := s.heard m.t
    (s.call.st ≠ .online →
        exec (.breakRequest m src []) s = .next (State.reviewed s (u.reply src kindCall (.refused .notInState))))
      ∧ (s.call.st = .online → s.call.breakInProgress = true →
          exec (.breakRequest m src []) s = .next (State.reviewed s (u.reply src kindCall (.busy .notInState))))
      ∧ (s.call.st = .online → s.call.breakInProgress = false → s.mod.st ≠ .carrier →
          exec (.breakRequest m src []) s
            = .next (State.reviewed s ((u.setCall { u.call with breakInProgress := true }).reply src kindCall .accepted)))
      ∧ (s.call.st = .online → s.call.breakInProgress = false → s.mod.st = .carrier →
          exec (.breakRequest m src []) s
            = .next (State.reviewed s (((u.setCall { u.call with breakInProgress := true }).setMod { u.mod with
                st := .breakSpace, frame := none, increment := spaceIncrement s.mode,
                breakTimer := some (u.now + 250000) }).reply src kindCall .accepted)))) ∧
  (∀ s : State,
    let taken := s.setCall { s.call with breakInProgress := true }
    s.takeBreak = (if s.mod.st = .carrier then taken.startBreak else taken)) ∧
  (∀ (s : State) (d : Nat), s.mod.st = .breakSpace → s.mod.breakTimer = some d →
    let u := s.advanceTo d
    exec .breakSpaceEnd s = .next (u.setMod { u.mod with
      st := .breakGuard, increment := markIncrement s.mode, breakTimer := some (u.now + 50000) })) ∧
  ∀ (s : State) (d : Nat), s.mod.st = .breakGuard → s.mod.breakTimer = some d →
    let u := s.advanceTo d
    exec .breakGuardEnd s
      = .next (((u.setCall { u.call with breakInProgress := false }).setMod { u.mod with
          st := .carrier, frame := none, increment := markIncrement s.mode, breakTimer := none }).chooseNext true)

/-- The loop test (R75, R76, R92, R93): LOOP TEST starts it in IDLE and READY, is BUSY in LOOP and DROPPING and refused during
a call; each bit time sends its level, 45 of mark, the 32 frames and 20 of mark (R76), each crossing goes to the classifier at
its own time (R64, in the low band), one already noted at once, and otherwise time runs on to the tone sample clock event of
the next one, at which the accumulator first reaches half-scale or wraps; the end of the tail gives the result and leaves READY
or IDLE by the cups. (That a crossing already noted waits for its own command is the model's choice, log entry 42, and so is
the increment of 0 in SILENT, log entry 41.) -/
def Obligations.LoopTestRuns : Prop :=
  (∀ (s : State) (m : Moment) (src : Addr), s.Takes src →
    let u := s.heard m.t
    (s.call.st = .idle ∨ s.call.st = .ready →
        ∃ t : State, exec (.loopTest m src []) s = .next (State.reviewed s (t.reply src kindCall .accepted))
          ∧ t.call = { s.call with st := .loop, loopSeated := s.call.seated }
          ∧ t.mod = { u.mod with
              st := .silent, phase := 0, increment := 2601, baudAcc := 0, bitSamples := 0, frame := none,
              test := some { started := u.now, bit := 0, samples := 0, phase := 0, due := [], recovered := 0,
                             mismatched := 0 } }
          ∧ t.demod = { u.demod with
              output := true, lastCrossing := none, windowCount := 0, windowTimer := none, presentRun := 0, absentRun := 0,
              sampler := Sampler.reset }
          ∧ t = ((u.setCall t.call).setMod t.mod).setDemod t.demod)
      ∧ (s.call.st = .loop ∨ s.call.st = .dropping →
          exec (.loopTest m src []) s = .next (State.reviewed s (u.reply src kindCall (.busy .notInState))))
      ∧ (s.call.st = .origWait ∨ s.call.st = .ansTone ∨ s.call.st = .online ∨ s.call.st = .fading →
          exec (.loopTest m src []) s = .next (State.reviewed s (u.reply src kindCall (.refused .callActive))))) ∧
  (∀ (s : State) (l : LoopTest), s.mod.test = some l → l.bit < 384 →
    let u := s.advanceTo s.bitEnd
    ∃ l', u.mod.test = some l' ∧ exec .frameBitStart s = .next (u.setMod { u.mod with
      test := some { l' with bit := l.bit + 1 }
      increment := if testBit (l.bit + 1) = true then 2601 else 2191
      bitSamples := u.mod.bitSamples - 16 })) ∧
  (∀ (s : State) (l : LoopTest) (t : Nat) (rest : List Nat), s.mod.test = some l → l.due = t :: rest →
    exec .testAccumulatorCrossing s = .next ((s.setMod { s.mod with test := some { l with due := rest } }).crossing t)) ∧
  (∀ (s : State) (l : LoopTest), s.mod.test = some l → l.due = [] →
    let inc := s.mod.increment
    let k := l.samples + ((if l.phase.toNat < 32768 then 32768 else 65536) - l.phase.toNat + inc - 1) / inc
    let at_ := l.started + 125 * k / 4
    let u := s.advanceTo at_
    (∀ l' t rest, u.mod.test = some l' → l'.due = t :: rest →
        exec .testAccumulatorCrossing s = .next ((u.setMod { u.mod with test := some { l' with due := rest } }).crossing t))
      ∧ (l.started ≤ s.now → l.samples = toneEvents (s.now - l.started) → 0 < inc → inc < 32768 →
          let sum := l.phase.toNat + (k - l.samples) * inc
          u.now = at_
            ∧ u.mod.test = some { l with samples := k, phase := BitVec.ofNat 16 sum, due := [at_] }
            ∧ (if l.phase.toNat < 32768 then 32768 ≤ sum ∧ sum - inc < 32768 else 65536 ≤ sum ∧ sum - inc < 65536)
            ∧ exec .testAccumulatorCrossing s
              = .next ((u.setMod { u.mod with
                  test := some { l with samples := k, phase := BitVec.ofNat 16 sum, due := [] } }).crossing at_))) ∧
  (∀ (bit k : Nat),
    (bit < 45 ∨ 365 ≤ bit → testBit bit = true)
      ∧ (k < 32 → bit < 10 → (frameBits { rate := .b300, data := .eight, stop := .one } (testChar k))[bit]?
          = some (testBit (45 + 10 * k + bit)))) ∧
  (∀ (s : State) (t : Nat),
    let timed := { s.demod with lastCrossing := some t }
    (s.demod.lastCrossing = none → s.crossing t = s.setDemod timed)
      ∧ ∀ last, s.demod.lastCrossing = some last → s.call.st = .loop →
          let us := t - last
          let mark := 360 ≤ us ∧ us ≤ 430
          let space := 431 ≤ us ∧ us ≤ 520
          let edge := s.demod.output = true ∧ s.demod.sampler.st = .hunt
          (mark → s.crossing t = s.setDemod { timed with output := true, windowCount := s.demod.windowCount + 1 })
            ∧ (space → ¬ edge →
                s.crossing t = s.setDemod { timed with output := false, windowCount := s.demod.windowCount + 1 })
            ∧ (space → edge → s.crossing t = s.setDemod { timed with
                output := false
                windowCount := s.demod.windowCount + 1
                sampler := { s.demod.sampler with
                  st := .assemble, baudAcc := 0, due := 0, sample := 0, bit := 0, confirmed := false, trio := [], bits := []
                  noise := false } })
            ∧ (¬ mark → ¬ space → s.crossing t = s.setDemod timed)) ∧
  (∀ (s : State) (l : LoopTest), s.mod.test = some l → l.bit = 384 → s.call.st = .loop →
    let u := s.advanceTo s.bitEnd
    let silent := u.setMod { u.mod with
      st := .silent, phase := 0, increment := 0, frame := none, breakTimer := none, test := none, bitSamples := 0 }
    let stopped := silent.setDemod { u.demod with
      windowTimer := none, sampler := { Sampler.reset with baudAcc := u.demod.sampler.baudAcc } }
    let v := (stopped.setCall { u.call with st := if s.call.seated then .ready else .idle }).askNotice
      (.loopResult 32 (l.mismatched + (32 - min 32 l.recovered)) false)
    exec .loopTestEnd s = .next (State.reviewed s
      (if s.call.seated = s.call.loopSeated then v else v.askNotice (.handset s.call.seated s.call.muted))))

/-! ## The Call Controller -/

/-- A reading that finds a cup open while SEATED (R78, R79, R87, R88): the cups are UNSEATED at once, and the call state says
what follows. The readings of the cups while UNSEATED (R78, R79, R89): a closed reading is counted, an open one clears the
count, and the fiftieth in a row makes the cups SEATED: READY from IDLE, and during a muted call the modulator unmutes. (That
fifty readings are counted, and that the three commands are one reading named by its outcome, is the model's choice: log
entries 18 and 37.) -/
def Obligations.CupsRead : Prop :=
  (∀ (s : State) (a b : Bool) (d : Nat), s.call.cupTimer = some d → s.call.seated = true → (a && b) = false →
    let v := s.advanceTo d
    let u := (v.setCall { v.call with cupTimer := some (v.now + 1000), seated := false, filter := 0 }).setPins
      { v.pins with cupA := a, cupB := b }
    ∃ t : State, exec (.cupsUnseated a b) s = .next (State.reviewed s t)
      ∧ exec (.cupSwitchReading a b) s = .next (State.reviewed s t)
      ∧ (s.call.st = .idle ∨ s.call.st = .dropping → t = u.askNotice (.handset false s.call.muted))
      ∧ (s.call.st = .ready → t = (u.setCall { u.call with st := .idle }).askNotice (.handset false s.call.muted))
      ∧ (s.call.st = .loop → t = u)
      ∧ (s.call.st = .online ∨ s.call.st = .fading →
          t = (u.setCall { u.call with muted := true, unseat := some (u.now + 1000000) }).askNotice (.handset false true))
      ∧ (s.call.st = .origWait ∨ s.call.st = .ansTone →
          t = (u.askNotice (.handset false s.call.muted)).enterDropping .handset)) ∧
  ∀ (s : State) (a b : Bool) (d : Nat), s.call.cupTimer = some d → s.call.seated = false →
    let v := s.advanceTo d
    let read := (v.setCall { v.call with cupTimer := some (v.now + 1000) }).setPins { v.pins with cupA := a, cupB := b }
    let u := read.setCall { read.call with seated := true, filter := 0 }
    ((a && b) = false →
        exec (.cupSwitchReading a b) s = .next (State.reviewed s (read.setCall { read.call with filter := 0 })))
      ∧ ((a && b) = true → s.call.filter ≠ 49 →
          exec (.cupSwitchReading a b) s
            = .next (State.reviewed s (read.setCall { read.call with filter := s.call.filter + 1 })))
      ∧ ((a && b) = true → s.call.filter = 49 →
          ∃ t : State, exec (.cupSwitchReading a b) s = .next (State.reviewed s t)
            ∧ exec .cupsSeated s = .next (State.reviewed s t)
            ∧ (s.call.st = .idle → t = (u.setCall { u.call with st := .ready }).askNotice (.handset true s.call.muted))
            ∧ (s.call.st = .loop → t = u)
            ∧ (s.call.st = .online ∨ s.call.st = .fading → s.call.muted = true →
                t = ((u.setCall { u.call with muted := false, unseat := none }).askNotice (.handset true false)).arrival)
            ∧ (s.call.st = .origWait ∨ s.call.st = .ansTone ∨ s.call.st = .dropping →
                t = u.askNotice (.handset true s.call.muted)))

/-- ORIGINATE and ANSWER (R81, R82): taken in READY with a format that R62 allows, with the carrier wait started and the
demodulator afresh, and in answer mode the mark tone from phase 0; otherwise answered by the call state, and the call is
unchanged. -/
def Obligations.CallPlaced : Prop :=
  ∀ (s : State) (m : Moment) (src : Addr) (r d b : Byte), s.Takes src →
    let u := s.heard m.t
    let afresh := { u.demod with
      output := true, lastCrossing := none, windowCount := 0, windowTimer := some (u.now + 10000), presentRun := 0,
      absentRun := 0 }
    let answered (a : Answer) :=
      exec (.originate m src [r, d, b]) s = .next (State.reviewed s (u.reply src kindCall a))
        ∧ exec (.answer m src [r, d, b]) s = .next (State.reviewed s (u.reply src kindCall a))
    (s.call.st = .idle → answered (.refused .handsetNotSeated))
      ∧ (s.call.st = .loop ∨ s.call.st = .dropping → answered (.busy .notInState))
      ∧ (s.call.st = .origWait ∨ s.call.st = .ansTone ∨ s.call.st = .online ∨ s.call.st = .fading →
          answered (.refused .callActive))
      ∧ (s.call.st = .ready → (2 < r.toNat ∨ 5 < d.toNat ∨ b = 0 ∨ 2 < b.toNat) → answered (.refused .outOfRange))
      ∧ (s.call.st = .ready → ∀ rate data stop, rateOf r = some rate → dataOf d = some data → stopOf b = some stop →
          let call (st : CallState) (mode : Mode) := { u.call with
            st := st, params := some { mode := mode, fmt := { rate := rate, data := data, stop := stop } }, dropCause := none,
            carrierWait := some (u.now + s.msg.setup.carrierWait * 1000000) }
          exec (.originate m src [r, d, b]) s
              = .next (State.reviewed s
                  (((u.setCall (call .origWait .originate)).setDemod afresh).reply src kindCall .accepted))
            ∧ exec (.answer m src [r, d, b]) s
              = .next (State.reviewed s
                  ((((u.setCall (call .ansTone .answer)).setMod { u.mod with
                      st := .carrier, phase := 0, increment := 4557, frame := none }).setDemod afresh).reply src kindCall
                        .accepted)))

/-- Entry to DROPPING (R94) as one step: the cause is recorded and the silence runs for 1.0 s, the modulator and the
demodulator stop, TXQ is discarded, outbound flow is CLEAR and the remote-stopped flag is clear, and CARRIER-DOWN is asked for.
The ways into DROPPING and out of it (R82, R86, R89, R90, R93, R95): the three timers with their causes, DROP, and the end of
the silence, which leaves READY or IDLE by the cups. (The increment of 0 in SILENT is the model's choice: log entry 41.) -/
def Obligations.CallEnded : Prop :=
  (∀ (s : State) (cause : DropCause),
    let t := s.enterDropping cause
    t.call = { s.call with
        st := .dropping, muted := false, breakInProgress := false, carrierWait := none, fade := none, unseat := none,
        dropCause := some cause, silence := some (s.now + 1000000) }
      ∧ t.mod = { s.mod with
          st := .silent, phase := 0, increment := 0, frame := none, breakTimer := none, test := none, bitSamples := 0 }
      ∧ t.demod = { s.demod with
          windowTimer := none, sampler := { Sampler.reset with baudAcc := s.demod.sampler.baudAcc } }
      ∧ t.pool = { s.pool with txq := [], free := (s.pool.txq.reverse.map Block.id) ++ s.pool.free }
      ∧ t.router = { s.router with flow := .clear, inFlight := none, remoteStopped := false }
      ∧ t.line = (s.askNotice (.carrierDown cause s.call.st)).line
      ∧ t = { s with call := t.call, mod := t.mod, demod := t.demod, pool := t.pool, router := t.router, line := t.line }) ∧
  (∀ (s : State) (d : Nat),
    (s.call.st = .origWait ∨ s.call.st = .ansTone → s.call.carrierWait = some d →
        exec .carrierWaitExpiry s = .next (State.reviewed s ((s.advanceTo d).enterDropping .timeout)))
      ∧ (s.call.st = .fading → s.call.fade = some d →
          exec .fadeExpiry s = .next (State.reviewed s ((s.advanceTo d).enterDropping .fade)))
      ∧ (s.call.st = .online ∨ s.call.st = .fading → s.call.unseat = some d →
          exec .unseatExpiry s = .next (State.reviewed s ((s.advanceTo d).enterDropping .handset)))
      ∧ (s.call.st = .dropping → s.call.silence = some d →
          exec .silenceExpiry s = .next ((s.advanceTo d).setCall { s.call with
            st := if s.call.seated = true then .ready else .idle, silence := none }))) ∧
  ∀ (s : State) (m : Moment) (src : Addr), s.Takes src →
    let u := s.heard m.t
    (s.call.st = .origWait ∨ s.call.st = .ansTone ∨ s.call.st = .online ∨ s.call.st = .fading →
        exec (.drop m src []) s = .next (State.reviewed s ((u.enterDropping .requested).reply src kindCall .accepted)))
      ∧ (s.call.st = .idle ∨ s.call.st = .ready ∨ s.call.st = .dropping →
          exec (.drop m src []) s = .next (State.reviewed s (u.reply src kindCall (.refused .notInState))))
      ∧ (s.call.st = .loop → ∀ l, u.mod.test = some l →
          ∃ t : State, exec (.drop m src []) s = .next (State.reviewed s (t.reply src kindCall .accepted))
            ∧ t.call = { s.call with st := if s.call.seated = true then .ready else .idle }
            ∧ t.mod.st = .silent ∧ t.mod.test = none ∧ t.pool = s.pool
            ∧ (s.call.seated = s.call.loopSeated →
                t.line = (u.askNotice (.loopResult (min 32 ((l.bit - 45) / 10))
                  (l.mismatched + (32 - min 32 l.recovered)) true)).line))

/-- After every step the call agrees with the cups, the parameters and the flags (R79, R80, R88, R91), and TXQ is empty
outside ONLINE and FADING (R12). -/
def Obligations.CallLawsKept : Prop :=
  (∀ s t : State, s.CallLaw → step s = .next t → t.CallLaw) ∧
  ∀ s t : State, s.TxqLaw → step s = .next t → t.TxqLaw

/-! ## The Line Assembler -/

/-- A cell taken from PRQ (R9, R102, R103, R114): the head cell leaves PRQ, the idle-flush timer starts anew, and the cell is
handled; with an OPEN image and nothing in PRQ, or with placements carried, nothing is taken. With no image OPEN a FREE one,
image 1 first, is opened empty for it, with the staged width and darkness, and placements carried are made in it first; with
neither, or with nothing to place, nothing is opened or taken. (The close order of 0 that an image has until it closes is the
model's choice: log entry 41.) -/
def Obligations.PrqCellTaken : Prop :=
  (∀ (s : State) (m : Moment),
    let v := s.advanceTo m.t
    let started := if s.msg.setup.flushSeconds = 0 then none else some (v.now + s.msg.setup.flushSeconds * 1000000)
    let takes (u : State) (id : ImageId) :=
      ∀ cell p, s.pool.take .prq = some (cell, p) →
        let w := u.changePool p
        exec (.takePrqCell m) s
          = .next (State.reviewed s (((w.setAsm { w.asm with flushTimer := started }).handleCell id cell m.sense).arrival))
    (∀ id, s.asm.openId = some id →
        (s.asm.carried ≠ [] ∨ s.pool.prq = [] → exec (.takePrqCell m) s = .next (State.reviewed s v))
          ∧ (s.asm.carried = [] → takes v id))
      ∧ (s.asm.openId = none → s.asm.carried = [] → s.asm.freeId = none ∨ s.pool.prq = [] →
          exec (.takePrqCell m) s = .next (State.reviewed s v))
      ∧ (s.asm.openId = none → ∀ id, s.asm.freeId = some id →
          let width := if s.asm.stagedWide then 40 else 80
          let opened := { v.asm.setImage id {
            st := .opened, wide := s.asm.stagedWide, darkness := s.asm.stagedDarkness
            cells := List.replicate width .empty, blanksAfter := 0, order := 0 } with flushTimer := started }
          (s.asm.carried = [] → s.pool.prq ≠ [] → takes (v.setAsm opened) id)
            ∧ (s.asm.carried ≠ [] → s.asm.column + s.asm.carried.length ≤ width →
                let placed := v.setAsm { s.asm.carried.foldl (fun a g => a.placeAt id g) opened with carried := [] }
                (s.pool.prq = [] → exec (.takePrqCell m) s = .next (State.reviewed s placed)) ∧ takes placed id))
      ∧ (∀ a : Assembler,
          (a.image1.st = .opened → a.openId = some .one)
            ∧ (a.image1.st ≠ .opened → a.image2.st = .opened → a.openId = some .two)
            ∧ (a.image1.st ≠ .opened → a.image2.st ≠ .opened → a.openId = none)
            ∧ (a.image1.st = .free → a.freeId = some .one)
            ∧ (a.image1.st ≠ .free → a.image2.st = .free → a.freeId = some .two)
            ∧ (a.image1.st ≠ .free → a.image2.st ≠ .free → a.freeId = none))) ∧
  ∀ s : State,
    let nothing := s.asm.carried = [] ∧ s.pool.prq = []
    let width := if s.asm.stagedWide then 40 else 80
    (s.asm.openId ≠ none ∨ s.asm.freeId = none ∨ nothing → s.openImage = s)
      ∧ ∀ id, s.asm.openId = none → s.asm.freeId = some id → ¬ nothing → s.asm.column + s.asm.carried.length ≤ width →
          let opened := { s.asm.setImage id {
            st := .opened, wide := s.asm.stagedWide, darkness := s.asm.stagedDarkness
            cells := List.replicate width .empty, blanksAfter := 0, order := 0 } with
            flushTimer := if s.msg.setup.flushSeconds = 0 then none else some (s.now + s.msg.setup.flushSeconds * 1000000) }
          s.openImage = s.setAsm { s.asm.carried.foldl (fun a g => a.placeAt id g) opened with carried := [] }

/-- A printable character within the width (R103, R104): a space leaves its column as it is, the first glyph is the primary
one, a later one the secondary; the column rises by one and the CR flag is cleared. A cell with a bad parity or stop bit prints
the ERROR glyph, a BREAK cell the LINE-BREAK glyph, and a code of 80h or above the ERROR glyph, or under STRIP what the code
less 80h does; NOISE has no effect. The other codes below 20h, and 7Fh, are ignored. The control codes (R103, R106 to R110) and
the overflow (R105): BEL, BS and HT within a line, CR, LF and FF at its end, and a glyph beyond the width, which the WRAP rule
carries to the next image and TRUNCATE drops, with every glyph after it until the line ends. A cell with LOST-BEFORE places the
LOST glyph first; where that one overflows under WRAP it is carried with the cell's own glyph, and a control code or an ignored
one is lost (the model's choice, log entry 22). While truncating it is dropped, before a CR, LF or FF that carries it too
clears the flag (the model's choice, log entry 55). Rendering (R115, R117): a cell's column k of six drives head position 6 ×
column + k, in WIDE width the two positions from 12 × column + 2 × k; a struck-over cell has the dots of both glyphs; the
special glyphs, the space and the underscore have the dots R117 gives, and every glyph leaves column 5 and row 9 off. -/
def Obligations.CellsPlaced : Prop :=
  (∀ (s : State) (id : ImageId) (sense : Sense),
    let width := columnsOf (s.asm.image id).wide
    let low (c : Cell) : Byte := if s.msg.setup.strip = true ∧ 0x80 ≤ c.code.toNat then c.code - 0x80 else c.code
    let shows (c : Cell) (g : Glyph) : Prop :=
      if c.lineBreak = true then g = .lineBreak
      else if c.parity = true ∨ c.framing = true ∨ 0x80 ≤ (low c).toNat then g = .error
      else 0x20 ≤ (low c).toNat ∧ (low c).toNat ≤ 0x7E ∧ g = .printable (low c)
    let struck (g : Glyph) :=
      let i := s.asm.image id
      let cells := i.cells.modify s.asm.column fun old =>
        if g = .printable 0x20 then old
        else match old with
          | .empty => .one g
          | .one p => .two p g
          | .two p _ => .two p g
      s.setAsm { s.asm.setImage id { i with cells := cells } with column := s.asm.column + 1, crFlag := false }
    let truncates := s.setAsm { s.asm with truncating := true }
    let wraps (carried : List Glyph) := (s.setAsm { s.asm with column := 0, carried := carried }).closeImage id 0 sense
    let take (code : Byte) := s.handleCell id { code := code } sense
    let ended := s.setAsm { s.asm with truncating := false, crFlag := false }
    let l := s.msg.setup.formLength
    (∀ c : Cell, s.handleCell id c sense = s.handleCell id { c with code := low c, noise := false } sense)
      ∧ (∀ (c : Cell) (g : Glyph), c.lostBefore = false → shows c g → s.asm.truncating = false →
          (s.asm.column < width → s.handleCell id c sense = struck g)
            ∧ (width ≤ s.asm.column → s.msg.setup.truncate = true → s.handleCell id c sense = truncates)
            ∧ (width ≤ s.asm.column → s.msg.setup.truncate = false → s.handleCell id c sense = wraps [g]))
      ∧ (∀ code : Byte, code.toNat < 0x20 ∨ code = 0x7F → code ∉ [0x07, 0x08, 0x09, 0x0A, 0x0C, 0x0D] → take code = s)
      ∧ take 0x07 = s.askSound .bell
      ∧ take 0x08 = s.setAsm { s.asm with column := s.asm.column - 1, crFlag := false }
      ∧ (s.asm.column / 8 * 8 + 8 ≤ width →
          take 0x09 = s.setAsm { s.asm with column := s.asm.column / 8 * 8 + 8, crFlag := false })
      ∧ (s.asm.crFlag = true → take 0x0A = ended)
      ∧ (s.asm.crFlag = false → take 0x0A = ended.closeImage id 0 sense)
      ∧ (l = 0 → take 0x0C = ended.closeImage id 1 sense)
      ∧ (l ≠ 0 → take 0x0C = ended.closeImage id (l - 1 - (s.asm.formPosition + s.asm.committed) % l) sense)
      ∧ ((s.asm.image id).isEmpty = true → s.asm.column = 0 → take 0x0D = s.setAsm { s.asm with truncating := false })
      ∧ ((s.asm.image id).isEmpty = false ∨ s.asm.column ≠ 0 →
          take 0x0D = (s.setAsm { s.asm with truncating := false, column := 0, crFlag := true }).closeImage id 0 sense)
      ∧ (width < s.asm.column / 8 * 8 + 8 →
          (s.msg.setup.truncate = true → take 0x09 = s.setAsm { s.asm with truncating := true, crFlag := false })
            ∧ (s.msg.setup.truncate = false →
                take 0x09 = (s.setAsm { s.asm with column := 0, crFlag := false }).closeImage id 0 sense))
      ∧ (s.asm.truncating = true → ∀ c : Cell,
          s.handleCell id c sense = s.handleCell id { c with lostBefore := false } sense
            ∧ (∀ g, shows c g → s.handleCell id c sense = s))
      ∧ (s.asm.truncating = false → ∀ c : Cell, c.lostBefore = true →
          let plain := { c with lostBefore := false }
          (s.asm.column < width → s.handleCell id c sense = (struck .lost).handleCell id plain sense)
            ∧ (width ≤ s.asm.column → s.msg.setup.truncate = true →
                s.handleCell id c sense = truncates.handleCell id plain sense)
            ∧ (width ≤ s.asm.column → s.msg.setup.truncate = false →
                (∀ g, shows c g → s.handleCell id c sense = wraps [.lost, g])
                  ∧ ((∀ g, ¬ shows c g) → s.handleCell id c sense = wraps [.lost])))) ∧
  (∀ (i : Image) (row column k : Nat) (cell : ImageCell), i.cells[column]? = some cell → k < 6 →
    (i.wide = false → column < 80 → (i.render row).getLsbD (6 * column + k) = cell.dot row k)
      ∧ (i.wide = true → column < 40 →
          (i.render row).getLsbD (12 * column + 2 * k) = cell.dot row k
            ∧ (i.render row).getLsbD (12 * column + 2 * k + 1) = cell.dot row k)) ∧
  ∀ (row k : Nat),
    (∀ p q : Glyph, ImageCell.empty.dot row k = false ∧ (ImageCell.one p).dot row k = p.dot row k
        ∧ (ImageCell.two p q).dot row k = (p.dot row k || q.dot row k))
      ∧ (∀ g : Glyph, 5 ≤ k ∨ 9 ≤ row → g.dot row k = false)
      ∧ (k < 5 →
          Glyph.error.dot row k = decide (row ≤ 6 ∧ (row + k) % 2 = 0)
            ∧ Glyph.lost.dot row k = decide (k = 2 ∧ row ≤ 6 ∧ row ≠ 3)
            ∧ Glyph.lineBreak.dot row k = decide (row ≤ 8)
            ∧ (Glyph.printable 0x20).dot row k = false
            ∧ (Glyph.printable 0x5F).dot row k = decide (row = 6))
      ∧ (∀ code : Byte,
          (code = 0x67 ∨ code = 0x6A ∨ code = 0x70 ∨ code = 0x71 ∨ code = 0x79 → row < 2 →
              (Glyph.printable code).dot row k = false)
            ∧ (code ≠ 0x67 → code ≠ 0x6A → code ≠ 0x70 → code ≠ 0x71 → code ≠ 0x79 → 7 ≤ row →
                (Glyph.printable code).dot row k = false))

/-- The idle flush and the closing of an image (R112, R114): an OPEN image that holds a glyph closes with no blank lines, and
one that is empty stays. A closed image is WAITING behind those closed before it, its text lines are committed, and the engine
makes its work test where no condition is present and no dot line is in progress. (That the close order is a count without a
bound is the model's choice: log entry 41.) -/
def Obligations.ImageClosed : Prop :=
  (∀ (s : State) (sense : Sense) (d : Nat), s.asm.flushTimer = some d →
    let v := s.advanceTo d
    let u := v.setAsm { v.asm with flushTimer := none }
    (s.asm.openId = none → exec (.idleFlushExpiry sense) s = .next (State.reviewed s u))
      ∧ ∀ id, s.asm.openId = some id →
          ((s.asm.image id).isEmpty = true → exec (.idleFlushExpiry sense) s = .next (State.reviewed s u))
            ∧ ((s.asm.image id).isEmpty = false →
                exec (.idleFlushExpiry sense) s = .next (State.reviewed s (u.closeImage id 0 sense)))) ∧
  ∀ (s : State) (id : ImageId) (blanks : Nat) (sense : Sense),
    let i := { s.asm.image id with st := .waiting, blanksAfter := blanks, order := s.asm.nextOrder }
    let v := s.setAsm { s.asm.setImage id i with
      nextOrder := s.asm.nextOrder + 1, committed := s.asm.committed + 1 + blanks, flushTimer := none }
    (s.eng.holds.any = true ∨ s.eng.inProgress ≠ none → s.closeImage id blanks sense = v.openImage)
      ∧ (s.eng.holds.any = false → s.eng.inProgress = none →
          s.closeImage id blanks sense = (v.workTest sense).openImage)

/-! ## The Print Engine -/

/-- The heating time in its three stages (R120), from the reference time, the used voltage and the used temperature, clamped to
250 and 2500 µs; and its three phases (R121), which hold for the whole dot line. -/
def Obligations.PhaseFigures : Prop :=
  (∀ t : Nat,
    phase1 t = (2 * (t * 60) + 100) / 200
      ∧ threeQuarter t = (2 * (t * 75) + 100) / 200
      ∧ phase1 t + phase2 t = threeQuarter t
      ∧ phase1 t + phase2 t + phase3 t = t
      ∧ (250 ≤ t → t ≤ 2500 →
          150 ≤ phase1 t ∧ phase1 t ≤ 1500 ∧ 37 ≤ phase2 t ∧ phase2 t ≤ 375 ∧ 62 ≤ phase3 t ∧ phase3 t ≤ 625)) ∧
  (∀ (darkness : Nat) (vc tc : Byte), 250 ≤ heatTime darkness vc tc ∧ heatTime darkness vc tc ≤ 2500) ∧
  (∀ (darkness : Nat) (vc tc : Byte), 140 ≤ vc.toNat → tc.toNat ≤ 100 →
    let mv := min 9000 (40 * vc.toNat)
    let reference := 600 + 100 * darkness
    let corrected := (2 * (reference * 51840000) + mv * mv) / (2 * (mv * mv))
    heatTime darkness vc tc = max 250 (min 2500 ((2 * (corrected * (165 - max 25 tc.toNat)) + 100) / 200))) ∧
  (∀ (s : State) (pattern : Dots) (bursts : List Dots) (d : DotLine), pattern ≠ 0 →
    (s.beginDotLine pattern bursts).eng.inProgress = some d →
      let darkness := match s.eng.rawWaiting, s.eng.run with
        | some _, _ => s.asm.stagedDarkness
        | none, some { image := some id, .. } => (s.asm.image id).darkness
        | none, _ => 0
      d.heat = heatTime darkness s.eng.vc s.eng.tc
        ∧ d.p1 = phase1 d.heat ∧ d.p2 = phase2 d.heat ∧ d.p3 = phase3 d.heat) ∧
  ∀ (d : DotLine) (a b : Dots),
    (d.nextStage a b).p1 = d.p1 ∧ (d.nextStage a b).p2 = d.p2 ∧ (d.nextStage a b).p3 = d.p3

/-- The packing (R127, R128): the bursts together are the dot line, no dot is in two of them, none is empty, and none draws
more than the budget. It fails exactly when some quarter of a group would. -/
def Obligations.PackingSound : Prop :=
  ∀ (current budget : Nat) (pattern : Dots),
    (∀ bursts, packLine current budget pattern = some bursts →
        bursts.foldl (· ||| ·) 0 = pattern
          ∧ bursts.Pairwise (fun a b => a &&& b = 0)
          ∧ ∀ b ∈ bursts, b ≠ 0 ∧ dotsFrom b 0 480 * current ≤ budget)
      ∧ (packLine current budget pattern = none ↔ ∃ q, q < 32 ∧ budget < dotsFrom pattern (15 * q) 15 * current)

/-- A burst's load and phases, and the half-steps (R122, R123, R130, R132): P1 heats every on dot, P2 those of class 0 and 1,
P3 those of class 0, each with the strobe groups of 60 dots that the burst has a dot in; a phase that would heat nothing is
left out; each burst's load takes 240 µs; at each half-step the motor phase rises by one and the outputs take its pattern for
1250 µs. -/
def Obligations.DotLinePhases : Prop :=
  (∀ (s : State) (d : DotLine) (b : Dots) (rest : List Dots), s.eng.inProgress = some d → d.bursts = b :: rest → b ≠ 0 →
    let u := s.advanceTo d.ends
    let cold := b &&& ~~~s.eng.previous
    let warm := b &&& ~~~(s.eng.previous &&& s.eng.beforePrevious)
    let heats (stage : Stage) (us : Nat) (dots : Dots) :=
      exec .burstPhaseEnd s
        = .next ((u.setEng { u.eng with inProgress := some { d with stage := stage, ends := d.ends + us } }).setPins
            { u.pins with strobes := groupsOf b, head := dots })
    let burstDone :=
      exec .burstPhaseEnd s
        = .next ((u.setEng { u.eng with inProgress := some (match rest with
            | [] => { d with bursts := [], stage := .advance, starting := true }
            | _ => { d with bursts := rest, stage := .load, ends := d.ends + 240 }) }).setPins { u.pins with strobes := 0 })
    (d.stage = .load → heats .p1 d.p1 b)
      ∧ (d.stage = .p1 → warm ≠ 0 → heats .p2 d.p2 warm)
      ∧ (d.stage = .p1 → warm = 0 → burstDone)
      ∧ (d.stage = .p2 → cold ≠ 0 → heats .p3 d.p3 cold)
      ∧ (d.stage = .p2 → cold = 0 → burstDone)
      ∧ (d.stage = .p3 → burstDone)) ∧
  (∀ (s : State) (d : DotLine), s.eng.inProgress = some d → d.stage = .advance → d.halfSteps < 2 →
    let u := s.advanceTo d.ends
    exec .halfStepStart s
      = .next ((u.setEng { u.eng with
          motorPhase := s.eng.motorPhase + 1
          inProgress := some { d with ends := u.now + 1250, halfSteps := d.halfSteps + 1, starting := false } }).setPins
            { u.pins with motor := motorOutputs (s.eng.motorPhase + 1) })) ∧
  (∀ (b : Dots) (g : Nat), g < 8 →
    ((groupsOf b).getLsbD g = true ↔ ∃ i, 60 * g ≤ i ∧ i < 60 * g + 60 ∧ b.getLsbD i = true)) ∧
  motorOutputs 0 = 0b0001 ∧ motorOutputs 1 = 0b0011 ∧ motorOutputs 2 = 0b0010 ∧ motorOutputs 3 = 0b0110
    ∧ motorOutputs 4 = 0b0100 ∧ motorOutputs 5 = 0b1100 ∧ motorOutputs 6 = 0b1000 ∧ motorOutputs 7 = 0b1001

/-- The end of a dot line (R133, R134, R143): the motor is off and the history shifted; a dot line of the run moves the run's
place on, and the tenth completes its text line: the committed lines fall and the form position rises (R113), and the last text
line frees its image, which is opened at once if there is something to place (R116). A hold asked for, BUDGET asked for and a
step whose extent is done then hold the engine; with no condition it goes on with its work, or is IDLE (R143, R151). The SAMPLE
stage of a dot line (R131): with no item in hand the oldest WAITING image is PRINTING; the sample is taken and the live
conditions are tested; with none present the granted budget is lowered to what is available (R166), and the motor test and the
packing (R126, R129) raise BUDGET or let the dot line begin, with a history older than 100 ms cleared (R124). (That a stopped
dot line is not shifted twice, and that the history is cleared only by a dot line that begins, is the model's choice: log
entries 24 and 23; so is what a FREE image holds: log entry 41.) -/
def Obligations.DotLineEnds : Prop :=
  (∀ (s : State) (sense : Sense) (d : DotLine), s.eng.inProgress = some d → d.stage = .advance → 2 ≤ d.halfSteps →
    let u := s.advanceTo d.ends
    let printed := if d.shifted then u.eng else
      { u.eng with beforePrevious := u.eng.previous, previous := d.pattern, lastShift := some u.now }
    let v := (u.setEng { printed with inProgress := none }).setPins { u.pins with motor := 0, strobes := 0 }
    exec (.dotLineEnd sense) s = .next (State.reviewed s (u.endDotLine d sense))
      ∧ (d.raw = true → u.completeDotLine d = (v, false))
      ∧ (d.raw = false → ∀ r, s.eng.run = some r →
          (r.dot < 9 → u.completeDotLine d = (v.setEng { v.eng with run := some { r with dot := r.dot + 1 } }, false))
            ∧ (9 ≤ r.dot → r.line < v.runBlanks r →
                u.completeDotLine d
                  = (v.textLineDone.setEng { v.eng with run := some { r with line := r.line + 1, dot := 0 } }, false))
            ∧ (9 ≤ r.dot → v.runBlanks r ≤ r.line → ∀ id, r.image = some id →
                u.completeDotLine d = ((v.textLineDone.setEng { v.eng with run := none }).freeImage id, true))
            ∧ (9 ≤ r.dot → v.runBlanks r ≤ r.line → r.image = none →
                u.completeDotLine d = (v.textLineDone.setEng { v.eng with run := none }, true)))
      ∧ (∀ w done, u.completeDotLine d = (w, done) →
          let stepOver := match s.eng.step with
            | .none => false
            | .line true => d.raw
            | .line false => done
            | .dot => d.raw
          let h := { s.eng.holds with
            controllerHold := s.eng.holds.controllerHold || s.eng.holdAsked || stepOver
            budget := s.eng.holds.budget || s.eng.budgetAsked }
          let x := w.setEng { w.eng with
            holdAsked := false, budgetAsked := false, step := if stepOver then .none else s.eng.step }
          (h.any = true → u.endDotLine d sense = x.applyHolds h)
            ∧ (h.any = false → w.workExists = true → u.endDotLine d sense = x.sampleStage sense)
            ∧ (h.any = false → w.workExists = false → w.eng.st ≠ .idle →
                u.endDotLine d sense = x.setEng { x.eng with st := .idle, watchTimer := some (x.now + 50000) }))) ∧
  (∀ (s : State) (id : ImageId),
    let l := s.msg.setup.formLength
    s.textLineDone = s.setAsm { s.asm with
        committed := s.asm.committed - 1
        formPosition := if l = 0 ∨ s.asm.formPosition + 1 = l then 0 else s.asm.formPosition + 1 }
      ∧ s.freeImage id = (s.setAsm (s.asm.setImage id {
          st := .free, wide := false, darkness := 0, cells := [], blanksAfter := 0, order := 0 })).openImage) ∧
  (∀ (s : State) (r : Run),
    (∀ id, r.image = some id →
        s.runBlanks r = (s.asm.image id).blanksAfter
          ∧ s.runPattern r = (if r.line = 0 then (s.asm.image id).render r.dot else 0))
      ∧ (r.image = none → s.runBlanks r = 0 ∧ s.runPattern r = 0)) ∧
  ∀ (s : State) (sense : Sense),
    let w := match s.eng.rawWaiting, s.eng.run, s.asm.oldestWaiting with
      | none, none, some id => (s.setEng { s.eng with run := some { image := some id, line := 0, dot := 0 } }).setAsm
          (s.asm.setImage id { s.asm.image id with st := .printing })
      | _, _, _ => s
    let mv := sense.vc.toNat * 40
    let ohms := s.msg.setup.dotOhms
    let current := (min 9000 mv + ohms - 1) / ohms
    let r := (w.setEng { w.eng with vc := sense.vc, tc := sense.tc, dotCurrent := current }).setPins
      { w.pins with paper := sense.paper, door := sense.door }
    let h : HoldSet := { s.eng.holds with
      headHot := if 100 < sense.tc.toNat then true else if sense.tc.toNat ≤ 95 then false else s.eng.holds.headHot
      lowVoltage := if mv < 5600 then true else if 5800 ≤ mv then false else s.eng.holds.lowVoltage
      batteryCritical := decide (s.bud.battery = .critical)
      doorOpen := !sense.door
      paperOut := !sense.paper }
    let free := r.available / 10 * 10
    let lowered := if s.line.listenOnly = false ∧ r.available < s.bud.granted
      then (((r.setBud { r.bud with raise := .none, settleTimer := none }).handClaim free).startBarrier).setGranted free .lower
      else r
    let budget := if s.line.listenOnly then 250 else lowered.bud.granted
    let pattern := match w.eng.rawWaiting, w.eng.run with
      | some p, _ => p
      | none, some run => w.runPattern run
      | none, none => 0
    let darkness := match w.eng.rawWaiting, w.eng.run with
      | some _, _ => s.asm.stagedDarkness
      | none, some { image := some id, .. } => (s.asm.image id).darkness
      | none, _ => 0
    let cold := match s.eng.lastShift with
      | some t => decide (t + 100000 ≤ s.now)
      | none => false
    (h.any = true → s.sampleStage sense = r.applyHolds h)
      ∧ (h.any = false → budget < s.msg.setup.motor ∨ packLine current budget pattern = none →
          s.sampleStage sense = lowered.applyHolds { lowered.eng.holds with budget := true })
      ∧ (h.any = false → s.msg.setup.motor ≤ budget → ∀ bursts, packLine current budget pattern = some bursts →
          ∃ d : DotLine,
            s.sampleStage sense = lowered.setEng { lowered.eng with
                rawWaiting := none, inProgress := some d
                previous := if cold then 0 else s.eng.previous
                beforePrevious := if cold then 0 else s.eng.beforePrevious
                lastHeat := if pattern = 0 then s.eng.lastHeat else heatTime darkness sense.vc sense.tc
                lastBursts := if pattern = 0 then s.eng.lastBursts else bursts.length }
              ∧ d.raw = w.eng.rawWaiting.isSome ∧ d.pattern = pattern ∧ d.bursts = bursts ∧ d.budget = budget
              ∧ d.darkness = darkness ∧ d.dotOhms = ohms ∧ d.motor = s.msg.setup.motor ∧ d.dotCurrent = current
              ∧ d.halfSteps = 0 ∧ d.shifted = false
              ∧ (bursts = [] → d.stage = .advance ∧ d.ends = s.now ∧ d.starting = true)
              ∧ (bursts ≠ [] → d.stage = .load ∧ d.ends = s.now + 240 ∧ d.starting = false))

/-- A watch sample (R118, R119, R142, R145): the readings and the dot current are taken, the live conditions are tested with
their hysteresis, and all changes of the set are one step; with no condition present the work test follows. The work test
(R141): with no work the engine is IDLE; with a budget that meets the need it is PRINTING and the first item begins
(HoldResumeStop); with a budget that falls short it is CLAIMING, or BUDGET is raised while the part is listen-only. The budget
is the granted one, or 250 mA while listen-only (R169). Work exists with any item of R138, a dot line in progress among them
(the model's choice: log entry 14), and of two WAITING images the one closed first is the oldest (R115). A state taken anew
starts the watch timer for 50 ms, and PRINTING stops it (R118). -/
def Obligations.WatchSampled : Prop :=
  (∀ (s : State) (sense : Sense) (d : Nat), s.eng.watchTimer = some d →
    let v := s.advanceTo d
    let mv := sense.vc.toNat * 40
    let u := (v.setEng { v.eng with
        vc := sense.vc, tc := sense.tc
        dotCurrent := (min 9000 mv + s.msg.setup.dotOhms - 1) / s.msg.setup.dotOhms
        watchTimer := some (v.now + 50000) }).setPins { v.pins with paper := sense.paper, door := sense.door }
    let h : HoldSet :=
      { stopped := s.eng.holds.stopped
        headHot := if 100 < sense.tc.toNat then true else if sense.tc.toNat ≤ 95 then false else s.eng.holds.headHot
        lowVoltage := if mv < 5600 then true else if 5800 ≤ mv then false else s.eng.holds.lowVoltage
        batteryCritical := decide (s.bud.battery = .critical)
        doorOpen := !sense.door
        paperOut := !sense.paper
        budget :=
          if s.line.listenOnly then s.eng.holds.budget
          else if s.eng.holds.budget then decide (s.bud.granted < u.need)
          else decide (s.eng.st = .claiming ∧ s.bud.granted < u.need ∧ u.desired < u.need)
        controllerHold := s.eng.holds.controllerHold }
    (h.any = true → exec (.watchSample sense) s = .next (State.reviewed s (u.applyHolds h)))
      ∧ (h.any = false → s.eng.holds.any = true → exec (.watchSample sense) s = .next (State.reviewed s (u.leaveHeld sense)))
      ∧ (h.any = false → s.eng.holds.any = false →
          exec (.watchSample sense) s = .next (State.reviewed s (u.workTest sense)))) ∧
  ∀ (s : State) (sense : Sense),
    let budget := if s.line.listenOnly then 250 else s.bud.granted
    let enters (st : EngineState) := if s.eng.st = st then s else s.setEng { s.eng with
      st := st, watchTimer := if st = .printing then none else some (s.now + 50000) }
    (s.workExists = true ↔ s.eng.stoppedLine ≠ none ∨ s.eng.rawWaiting ≠ none ∨ s.eng.run ≠ none
        ∨ s.asm.image1.st = .waiting ∨ s.asm.image2.st = .waiting ∨ s.eng.inProgress ≠ none)
      ∧ (s.asm.oldestWaiting = none ↔ s.asm.image1.st ≠ .waiting ∧ s.asm.image2.st ≠ .waiting)
      ∧ (∀ id, s.asm.oldestWaiting = some id → (s.asm.image id).st = .waiting
          ∧ ∀ other, (s.asm.image other).st = .waiting → (s.asm.image id).order ≤ (s.asm.image other).order)
      ∧ (∀ st, s.setEngineState st = enters st)
      ∧ (s.workExists = false → s.workVerdict = .idle ∧ s.workTest sense = enters .idle)
      ∧ (s.workExists = true → s.need ≤ budget →
          s.workVerdict = .printing ∧ s.workTest sense = (enters .printing).startItem sense)
      ∧ (s.workExists = true → budget < s.need → s.line.listenOnly = false →
          s.workVerdict = .claiming ∧ s.workTest sense = enters .claiming)
      ∧ (s.workExists = true → budget < s.need → s.line.listenOnly = true →
          s.workVerdict = .short ∧ s.workTest sense = s.applyHolds { s.eng.holds with budget := true })

/-- Entry to HELD and changes of the set while HELD (R144, R147): the highest condition in the order of R144 is recorded at
entry and locked while it is present, the hold entry count rises at entry alone, and PRINT-HELD is asked for at entry and at
each change of the cause. A step in force ends at entry, and CONTROLLER-HOLD joins the set in that same step, below every other
condition (R151). (Where HELD is entered again as it ends, the watch timer runs on: the model's choice, log entry 50.) -/
def Obligations.HoldsApplied : Prop :=
  ∀ (s : State) (h : HoldSet) (c : Hold),
    (s.eng.holds.any = false →
        let joined : HoldSet := { h with controllerHold := h.controllerHold || decide (s.eng.step ≠ .none) }
        joined.highest = some c →
        s.applyHolds h
          = (s.setEng { s.eng with
              st := .held, holds := joined, cause := some c, holdCount := s.eng.holdCount + 1, step := .none,
              watchTimer := if s.eng.st = .held then s.eng.watchTimer else some (s.now + 50000) }).askNotice
                (.printHeld c joined (s.eng.holdCount + 1)))
      ∧ (s.eng.holds.any = true → ∀ old, s.eng.cause = some old → h.any = true →
          (h.has old = true → s.applyHolds h = s.setEng { s.eng with holds := h })
            ∧ (h.has old = false → h.highest = some c →
                s.applyHolds h
                  = (s.setEng { s.eng with holds := h, cause := some c }).askNotice (.printHeld c h s.eng.holdCount)))
      ∧ h.highest = (if h.stopped then some .stopped else if h.headHot then some .headHot
          else if h.lowVoltage then some .lowVoltage else if h.batteryCritical then some .batteryCritical
          else if h.doorOpen then some .doorOpen else if h.paperOut then some .paperOut
          else if h.budget then some .budget else if h.controllerHold then some .controllerHold else none)
      ∧ (h.highest = none ↔ h.any = false)
      ∧ (∀ k : Hold, h.has k = (match k with
          | .stopped => h.stopped
          | .headHot => h.headHot
          | .lowVoltage => h.lowVoltage
          | .batteryCritical => h.batteryCritical
          | .doorOpen => h.doorOpen
          | .paperOut => h.paperOut
          | .budget => h.budget
          | .controllerHold => h.controllerHold))

/-- HOLD, RESUME and STOP NOW (R148, R149, R150). STOP NOW cuts the dot line in progress and leaves it at its ADVANCE (R135), its
pattern shifted into the history; where a half-step begins at that moment, the end before it having come first, that half-step
has begun and is the one cut. A dot line that was stopped before is not shifted again (the model's choice, log entry 24). The
first item begins (R135): a dot line left at its ADVANCE is tested against the motor current and makes its remaining
half-steps, or is complete at once with none; any other item begins with its SAMPLE stage. -/
def Obligations.HoldResumeStop : Prop :=
  (∀ (s : State) (m : Moment) (src : Addr), s.Takes src →
    let u := s.heard m.t
    let answers (c : Instr) (t : State) (a : Answer) := exec c s = .next (State.reviewed s (t.reply src kindPrintControl a))
    let stop := { s.eng.holds with
      stopped := true
      controllerHold := s.eng.holds.controllerHold || s.eng.holdAsked
      budget := s.eng.holds.budget || s.eng.budgetAsked }
    (s.eng.holds.controllerHold = true ∨ s.eng.holdAsked = true → answers (.hold m src []) u .accepted)
      ∧ (s.eng.holds.controllerHold = false → s.eng.holdAsked = false → s.eng.inProgress ≠ none →
          answers (.hold m src []) (u.setEng { u.eng with holdAsked := true }) .accepted)
      ∧ (s.eng.holds.controllerHold = false → s.eng.holdAsked = false → s.eng.inProgress = none →
          answers (.hold m src []) (u.applyHolds { u.eng.holds with controllerHold := true }) .accepted)
      ∧ (s.eng.holds.stopped = false → s.eng.holds.controllerHold = false → s.eng.holdAsked = false → s.eng.step = .none →
          answers (.resume m src []) u (.refused .notInState))
      ∧ (s.eng.holds.stopped = true ∨ s.eng.holds.controllerHold = true ∨ s.eng.holdAsked = true ∨ s.eng.step ≠ .none →
          let v := u.setEng { u.eng with holdAsked := false, step := .none }
          let h := { u.eng.holds with stopped := false, controllerHold := false }
          (h.any = true → answers (.resume m src []) (v.applyHolds h) .accepted)
            ∧ (h.any = false → s.eng.holds.any = true → answers (.resume m src []) (v.leaveHeld m.sense) .accepted)
            ∧ (h.any = false → s.eng.holds.any = false → answers (.resume m src []) v .accepted))
      ∧ (s.eng.inProgress = none →
          answers (.stopNow m src [])
            ((u.setEng { u.eng with holdAsked := false, budgetAsked := false }).applyHolds stop) .accepted)
      ∧ ∀ d, s.eng.inProgress = some d →
          let cut := if d.shifted then u.eng else
            { u.eng with beforePrevious := u.eng.previous, previous := d.pattern, lastShift := some u.now }
          let left := { cut with
            inProgress := none
            stoppedLine := some { d with
              stage := .advance, bursts := [], shifted := true, starting := false
              halfSteps := if d.starting then d.halfSteps + 1 else d.halfSteps }
            motorPhase := if d.starting then u.eng.motorPhase + 1 else u.eng.motorPhase
            holdAsked := false, budgetAsked := false }
          answers (.stopNow m src [])
            (((u.setEng left).setPins { u.pins with strobes := 0, motor := 0 }).applyHolds stop) .accepted) ∧
  ∀ (s : State) (sense : Sense),
    let budget := if s.line.listenOnly then 250 else s.bud.granted
    (s.eng.stoppedLine = none → s.startItem sense = s.sampleStage sense)
      ∧ ∀ d, s.eng.stoppedLine = some d →
          (budget < s.msg.setup.motor → s.startItem sense = s.applyHolds { s.eng.holds with budget := true })
            ∧ (s.msg.setup.motor ≤ budget → d.halfSteps < 2 →
                s.startItem sense = s.setEng { s.eng with
                  stoppedLine := none, inProgress := some { d with stage := .advance, ends := s.now, starting := true } })
            ∧ (s.msg.setup.motor ≤ budget → 2 ≤ d.halfSteps →
                let d' := { d with stage := .advance, ends := s.now, starting := false }
                s.startItem sense
                  = (s.setEng { s.eng with stoppedLine := none, inProgress := some d' }).endDotLine d' sense)

/-- STEP LINE and RAW DOT LINE (R151, R152): taken only while CONTROLLER-HOLD is the one condition present, with work for a
step and with no stopped or waiting dot line for a raw one; the step is put in force and the engine leaves HELD: the set
empties, PRINT-RESUMED names the state that the work test enters, and its work begins; a listen-only part whose budget falls
short raises BUDGET at once and holds again. (The model's choice: that the watch timer then runs on, log entry 50; that a
request refused changes nothing and that the 60 characters run from position 0, read from R148 and R195, log entry 45.) -/
def Obligations.StepAndRaw : Prop :=
  ∀ (s : State) (m : Moment) (src : Addr) (body : List Byte), s.Takes src → body.length = 60 →
    let u := s.heard m.t
    let alone := s.eng.holds = { controllerHold := true }
    (alone → s.workExists = true →
        let raw := match s.eng.stoppedLine with
          | some d => d.raw
          | none => s.eng.rawWaiting.isSome
        exec (.stepLine m src []) s
          = .next (State.reviewed s
              (((u.setEng { u.eng with step := .line raw }).leaveHeld m.sense).reply src kindPrintControl .accepted)))
      ∧ (¬ alone ∨ s.workExists = false →
          exec (.stepLine m src []) s
            = .next (State.reviewed s (u.reply src kindPrintControl (.refused .notInState))))
      ∧ (alone → s.eng.stoppedLine = none → s.eng.rawWaiting = none →
          ∃ p : Dots, (∀ i, i < 480 → p.getLsbD i = ((body[i / 8]?).getD 0).getLsbD (7 - i % 8))
            ∧ exec (.rawDotLine m src body) s
              = .next (State.reviewed s
                  (((u.setEng { u.eng with step := .dot, rawWaiting := some p }).leaveHeld m.sense).reply src kindRawDotLine
                    .accepted)))
      ∧ (¬ alone ∨ s.eng.stoppedLine ≠ none ∨ s.eng.rawWaiting ≠ none →
          exec (.rawDotLine m src body) s
            = .next (State.reviewed s (u.reply src kindRawDotLine (.refused .notInState))))
      ∧ (∀ v : State, ∀ sense, v.leaveHeld sense
          = (let w := v.setEng { v.eng with holds := {}, cause := none }
             match w.workVerdict with
             | .idle => (w.setEngineState .idle).askNotice (.printResumed v.eng.holdCount .idle)
             | .printing =>
               ((w.setEngineState .printing).askNotice (.printResumed v.eng.holdCount .printing)).startItem sense
             | .claiming => (w.setEngineState .claiming).askNotice (.printResumed v.eng.holdCount .claiming)
             | .short => w.raiseBudgetHold))
      ∧ (∀ v : State, v.raiseBudgetHold = v.applyHolds { v.eng.holds with budget := true })

/-- SET DARKNESS and SET WIDTH (R153): staged alone, a value out of its range as the nearest one with ADJUSTED. -/
def Obligations.StagedValues : Prop :=
  ∀ (s : State) (m : Moment) (src : Addr) (v : Byte), s.Takes src →
    let u := s.heard m.t
    exec (.setDarkness m src [v]) s
        = .next (State.reviewed s ((u.setAsm { u.asm with stagedDarkness := min 7 v.toNat }).reply src kindPrintControl
            (if v.toNat ≤ 7 then .accepted else .adjusted)))
      ∧ exec (.setWidth m src [v]) s
        = .next (State.reviewed s ((u.setAsm { u.asm with stagedWide := decide (v ≠ 0) }).reply src kindPrintControl
            (if v = 0 ∨ v = 1 then .accepted else .adjusted)))

/-- After every step the engine is HELD exactly while a condition is present, and its recorded cause is one of those present
(R144, R147). -/
def Obligations.HeldLawKept : Prop :=
  ∀ s t : State, s.HeldLaw → step s = .next t → t.HeldLaw

/-! ## The Budget Unit -/

/-- What the Budget Unit hears (R156, R158, R159, R184), from another station, in START and RUN and while no attempt of its own
runs: an ALLOWANCE is recorded when the record is empty or stale, comes from the same source, or is above it; a CLAIM adds,
replaces or removes its source's entry; a PRESENT removes it. Each tick ages the record and the entries. -/
def Obligations.BudgetHeard : Prop :=
  (∀ (s : State) (m : Moment) (src : Addr) (lo hi b : Byte),
    s.line.attempt = none → s.msg.op ≠ .doze → src ≠ s.line.addr →
    let u := s.heard m.t
    let mA := min 5000 (10 * (lo.toNat + 256 * hi.toNat))
    (∀ st, batteryOf b = some st →
        (s.bud.record = none ∨ (∃ r, s.bud.record = some r ∧ (30 ≤ r.age ∨ r.source = src ∨ mA < r.mA)) →
            exec (.allowance m src [lo, hi, b]) s
              = .next (State.reviewed s (u.setBud { u.bud with
                  record := some { mA := mA, battery := st, source := src, age := 0 } })))
          ∧ (∀ r, s.bud.record = some r → r.age < 30 → r.source ≠ src → r.mA ≤ mA →
              exec (.allowance m src [lo, hi, b]) s = .next (State.reviewed s u)))
      ∧ (2 < b.toNat → exec (.allowance m src [lo, hi, b]) s = .next (State.reviewed s u))
      ∧ (src = 0 ∨ src = 15 → exec (.claim m src [lo, hi]) s = .next (State.reviewed s u)
          ∧ exec (.present m src [lo, hi]) s = .next (State.reviewed s u))
      ∧ (src ≠ 0 → src ≠ 15 →
          let others := s.bud.table.filter fun e => e.addr ≠ src
          exec (.present m src [lo, hi]) s = .next (State.reviewed s (u.setBud { u.bud with table := others }))
            ∧ (mA = 0 → exec (.claim m src [lo, hi]) s = .next (State.reviewed s (u.setBud { u.bud with table := others })))
            ∧ (mA ≠ 0 → others = s.bud.table →
                exec (.claim m src [lo, hi]) s
                  = .next (State.reviewed s (u.setBud { u.bud with
                      table := s.bud.table ++ [{ addr := src, mA := mA, age := 0 }] })))
            ∧ (mA ≠ 0 → others ≠ s.bud.table →
                exec (.claim m src [lo, hi]) s
                  = .next (State.reviewed s (u.setBud { u.bud with
                      table := s.bud.table.map fun e => if e.addr = src then { e with mA := mA, age := 0 } else e }))))) ∧
  ∀ (s : State) (d : Nat), s.bud.tickTimer = some d →
    let u := s.advanceTo d
    exec .budgetTick s
      = .next (State.reviewed s (u.setBud { u.bud with
          record := u.bud.record.map fun r => { r with age := min 30 (r.age + 1) }
          table := (u.bud.table.map fun e => { e with age := e.age + 1 }).filter fun e => e.age < 25
          tickTimer := some (u.now + 100000) }))

/-- The Budget Unit's timers (R164, R165, R167, R168): the settle's outcome by what is available and needed then; the barrier's
end and the raise test; the restatement of the own claim (one of 0 is not restated: log entry 15); the park, which releases the
claim. The need (R140): the motor current for a dot line left at its ADVANCE or without on dots, for any other the larger of it
and 15 × I; that of a dot line in progress stands while it lasts (the model's choice: log entry 14), and after a SETUP I is
that of the latest sample (log entry 51). The figures (R157, R160): the allowance and the battery state in use by the record's
age, the own fixed load, available, ceiling′ and desired. What the engine makes of the end of a settle (R142, R146): the budget
asked flag during a dot line; else BUDGET of a HELD engine by the need; else BUDGET raised where work waits under a budget
below the need; else the work test. A granted budget that changes asks for a BUDGET notice with available and the cause, and
one that does not asks for none (R171). A handed value becomes the own claim and takes the CLAIM slot, but waits behind one
that an attempt carries; 0 stops the restate timer (R161, R167, R182); the barrier runs for own address × 100 ms (R165). -/
def Obligations.BudgetTimers : Prop :=
  (∀ (s : State) (sense : Sense) (c d : Nat), s.bud.raise = .settling c → s.bud.settleTimer = some d →
    let u := s.advanceTo d
    let free := u.available / 10 * 10
    let ended := u.setBud { u.bud with raise := .none, settleTimer := none }
    let hands (mA : Nat) := (ended.handClaim mA).startBarrier
    let answers (t : State) := exec (.settleExpiry sense) s = .next (State.reviewed s (t.settleReport sense))
    (c ≤ u.available → u.need ≤ c → answers (ended.setGranted c .settle))
      ∧ (c ≤ u.available → c < u.need → answers ((hands 0).setGranted 0 .settle))
      ∧ (u.available < c → u.need ≤ free → answers ((hands free).setGranted free .settle))
      ∧ (u.available < c → free < u.need → answers ((hands 0).setGranted 0 .settle))) ∧
  (∀ (s : State) (d : Nat), s.bud.barrierTimer = some d →
    let u := s.advanceTo d
    exec .raiseBarrierExpiry s = .next (State.reviewed s (u.setBud { u.bud with barrierTimer := none }).raiseTest)) ∧
  (∀ (s : State) (d : Nat), s.bud.restateTimer = some d →
    let u := s.advanceTo d
    ((∃ v, s.bud.raise = .asking v) ∨ s.line.claimSlot ≠ none →
        exec .restateExpiry s = .next (u.setBud { u.bud with restateTimer := some (u.now + 1000000) }))
      ∧ ((∀ v, s.bud.raise ≠ .asking v) → s.line.claimSlot = none → s.bud.own = 0 →
          exec .restateExpiry s = .next (u.setBud { u.bud with restateTimer := none }))
      ∧ ((∀ v, s.bud.raise ≠ .asking v) → s.line.claimSlot = none → s.bud.own ≠ 0 →
          exec .restateExpiry s
            = .next ((u.setBud { u.bud with restateTimer := none }).setLine { u.line with
                claimSlot := some { mA := s.bud.own, count := 0, next := none } }))) ∧
  (∀ (s : State) (d : Nat), s.bud.parkTimer = some d →
    let u := s.advanceTo d
    let released := u.setBud { u.bud with parkTimer := none, raise := .none, settleTimer := none, own := 0 }
    (0 < s.bud.own → exec .parkExpiry s = .next (State.reviewed s ((released.handClaim 0).setGranted 0 .park)))
      ∧ (s.bud.own = 0 → exec .parkExpiry s = .next (State.reviewed s (released.setGranted 0 .park)))) ∧
  (∀ s : State,
    let forDots (p : Dots) := if p = 0 then s.msg.setup.motor else max s.msg.setup.motor (15 * s.eng.dotCurrent)
    (∀ d, s.eng.inProgress = some d → s.need = if d.shifted then s.msg.setup.motor else forDots d.pattern)
      ∧ (s.eng.inProgress = none →
          (s.eng.stoppedLine ≠ none → s.need = s.msg.setup.motor)
            ∧ (s.eng.stoppedLine = none →
                (∀ p, s.eng.rawWaiting = some p → s.need = forDots p)
                  ∧ (s.eng.rawWaiting = none →
                      (∀ r, s.eng.run = some r →
                          (∀ id, r.image = some id → r.line = 0 → s.need = forDots ((s.asm.image id).render r.dot))
                            ∧ (r.image = none ∨ r.line ≠ 0 → s.need = s.msg.setup.motor))
                        ∧ (s.eng.run = none →
                            (∀ id, s.asm.oldestWaiting = some id → s.need = forDots ((s.asm.image id).render 0))
                              ∧ (s.asm.oldestWaiting = none → s.need = 0)))))) ∧
  (∀ s : State,
    let carrier := s.call.st = .ansTone ∨ s.call.st = .loop
      ∨ ((s.call.st = .online ∨ s.call.st = .fading) ∧ s.call.muted = false)
    (∀ r, s.bud.record = some r → r.age < 30 →
        s.bud.allowance = r.mA
          ∧ s.bud.battery = (match r.battery with
              | .normal => .normal
              | .low => .low
              | .critical => .critical))
      ∧ (s.bud.record = none ∨ (∃ r, s.bud.record = some r ∧ 30 ≤ r.age) →
          s.bud.allowance = 400 ∧ s.bud.battery = .unknown)
      ∧ s.fixedLoad = (if carrier then 70 else 35)
      ∧ (s.available : Int) = max 0 ((s.bud.allowance : Int) - ((s.bud.table.map Neighbour.mA).sum : Nat) - s.fixedLoad)
      ∧ s.ceiling = (if s.bud.battery = .low ∨ s.bud.battery = .critical then s.msg.setup.ceiling / 2 / 10 * 10
          else s.msg.setup.ceiling)
      ∧ s.desired = min s.ceiling s.available / 10 * 10) ∧
  (∀ (s : State) (mA : Nat),
    let handed := s.setBud { s.bud with own := mA, restateTimer := if mA = 0 then none else s.bud.restateTimer }
    let carried := ∃ a, s.line.attempt = some a ∧ a.slot = .claim
    (s.line.claimSlot = none ∨ ¬ carried →
        s.handClaim mA = handed.setLine { s.line with claimSlot := some { mA := mA, count := 0, next := none } })
      ∧ (∀ c, s.line.claimSlot = some c → carried →
          s.handClaim mA = handed.setLine { s.line with claimSlot := some { c with next := some mA } })
      ∧ s.startBarrier = s.setBud { s.bud with barrierTimer := some (s.now + s.line.addr.toNat * 100000) }) ∧
  (∀ (s : State) (mA : Nat) (cause : BudgetCause),
    let granted := s.setBud { s.bud with granted := mA }
    (s.bud.granted = mA → s.setGranted mA cause = granted)
      ∧ (s.bud.granted ≠ mA → s.setGranted mA cause = granted.askNotice (.budget mA s.available cause))) ∧
  ∀ (s : State) (sense : Sense),
    let short := s.bud.granted < s.need
    let h : HoldSet := { s.eng.holds with budget := decide short }
    (s.eng.inProgress ≠ none → s.settleReport sense = s.setEng { s.eng with budgetAsked := decide short })
      ∧ (s.eng.inProgress = none → s.eng.holds.any = true →
          s.settleReport sense = if h.any then s.applyHolds h else s.leaveHeld sense)
      ∧ (s.eng.inProgress = none → s.eng.holds.any = false →
          (s.eng.st ≠ .idle → short → s.settleReport sense = s.applyHolds { s.eng.holds with budget := true })
            ∧ (s.eng.st = .idle ∨ ¬ short → s.settleReport sense = s.workTest sense))

/-- After every step what the engine may draw has been claimed on the party line (R161, R163, R166), and the neighbour table
is a table (R158, R159). -/
def Obligations.ClaimLawsKept : Prop :=
  (∀ s t : State, s.ClaimLaw → step s = .next t → t.ClaimLaw) ∧
  ∀ s t : State, s.TableLaw → step s = .next t → t.TableLaw

/-! ## The Line Interface -/

/-- The start of an attempt (R178, R180, R181): the idle count runs only while the wire is high, and each fall sets it to 0;
after 14 bit times of it, and 2 × own address more under the retry flag, the first ready slot's message starts and its attempt
count rises. With the wire low, the count short, an event on the wire, while listen-only, in DOZE, with an attempt running or
with nothing ready, none starts. (That the count runs from the end of the last low bit, and that a wait which is over may end
at any later moment that the command's wave reaches, is the model's choice: log entries 7 and 17; so is that the command
changes nothing with any other wave: log entry 6.) What fills the notice slot (R187): a notice is queued for the destination
its kind's routing gives, at the tail or in the place of the queued one of its kind, whose BREAK-RECEIVED count rises by one up
to 255 (that a notice replaced while no attempt carries it keeps its attempt count is the model's choice: log entry 19); none
is queued for OFF or while listen-only. One changed while an attempt carries it is marked as changed (R180), but not a
BREAK-RECEIVED whose count stands at 255. The message of each slot (R174, R195): head, kind, length, body and a check that
makes the sum 0; broadcast for CLAIM and PRESENT; the body of each kind by R195. (The bits that R195 names no use for are left
open: log entry 2.) -/
def Obligations.AttemptStarts : Prop :=
  (∀ (s : State) (wave : Wave),
    let h := s.hear wave
    let l := h.line
    let bit := if s.line.fast then 16 else 64
    let wait := (14 + (if s.line.retry then 2 * s.line.addr.toNat else 0)) * bit
    let may := s.line.attempt = none ∧ s.line.listenOnly = false ∧ s.msg.op ≠ .doze
    let waited := h.events = [] ∧ l.wireLow = false ∧ l.wireSince + wait ≤ l.readTo
    (∀ slot bytes, may → waited → s.readySlot = some slot → s.line.slotMessage slot = some bytes →
        let u := s.advanceTo l.readTo
        exec (.sendWaitEnd wave) s
          = .next (u.setLine { l.countAttempt slot with
              attempt := some { slot := slot, bytes := bytes, started := u.now, highSince := l.wireSince }
              chars := .hunting, message := .waiting, wireLow := true, wireSince := u.now }))
      ∧ (¬ may ∨ ¬ waited ∨ s.readySlot = none → exec (.sendWaitEnd wave) s = .next s)
      ∧ (∀ r : WireRun, 0 < r.length →
          let after := (s.hear (wave ++ [r])).line
          after.readTo = l.readTo + r.length ∧ after.wireLow = !r.high
            ∧ after.wireSince = (if l.wireLow = !r.high then l.wireSince else l.readTo))) ∧
  (∀ l : Line,
    l.countAttempt .claim = { l with claimSlot := l.claimSlot.map fun c => { c with count := c.count + 1 } }
      ∧ (∀ r rest, l.replies = r :: rest →
          l.countAttempt .reply = { l with replies := { r with count := r.count + 1 } :: rest })
      ∧ (∀ e rest, l.notices = e :: rest →
          l.countAttempt .notice = { l with notices := { e with count := e.count + 1 } :: rest })
      ∧ l.countAttempt .keys = { l with keysSlot := l.keysSlot.map fun k => { k with count := k.count + 1 } }
      ∧ l.countAttempt .text = { l with textSlot := l.textSlot.map fun t => { t with count := t.count + 1 } }
      ∧ l.countAttempt .present = { l with presentSlot := l.presentSlot.map fun n => n + 1 }) ∧
  (∀ s : State,
    (s.line.claimSlot ≠ none → s.readySlot = some .claim)
      ∧ (s.line.claimSlot = none →
          (s.line.replies ≠ [] → s.readySlot = some .reply)
            ∧ (s.line.replies = [] →
                (s.line.notices ≠ [] → s.msg.op ≠ .start → s.readySlot = some .notice)
                  ∧ (s.line.notices = [] ∨ s.msg.op = .start →
                      (s.line.keysSlot ≠ none → s.readySlot = some .keys)
                        ∧ (s.line.keysSlot = none →
                            (s.line.textSlot ≠ none → s.readySlot = some .text)
                              ∧ (s.line.textSlot = none →
                                  (s.line.presentSlot ≠ none → s.readySlot = some .present)
                                    ∧ (s.line.presentSlot = none → s.readySlot = none))))))) ∧
  (∀ (s : State) (n : Notice),
    let queue (q : List NoticeEntry) := s.setLine { s.line with notices := q }
    (s.line.listenOnly = true ∨ s.msg.setup.route n.kind = .off → s.askNotice n = s)
      ∧ (s.line.listenOnly = false → s.msg.setup.route n.kind ≠ .off →
          let dest := if s.msg.setup.route n.kind = .all then 0 else s.msg.setup.controller
          ((∀ e ∈ s.line.notices, e.notice.kind ≠ n.kind) →
              s.askNotice n
                = queue (s.line.notices ++ [{ notice := n, dest := dest, count := 0, changed := false, since := 0 }]))
            ∧ ∀ before e rest, s.line.notices = before ++ e :: rest → (∀ x ∈ before, x.notice.kind ≠ n.kind) →
                e.notice.kind = n.kind →
                let carried := before = [] ∧ ∃ a, s.line.attempt = some a ∧ a.slot = .notice
                (∀ k, e.notice = .breakReceived k →
                    s.askNotice n = queue (before ++ { e with
                      notice := .breakReceived (min 255 (k + 1)), dest := dest
                      changed := e.changed || decide (carried ∧ k < 255)
                      since := if carried ∧ k < 255 then min 255 (e.since + 1) else e.since } :: rest))
                  ∧ ((∀ k, e.notice ≠ .breakReceived k) →
                      ∃ since, s.askNotice n = queue (before ++ { e with
                        notice := n, dest := dest, changed := e.changed || decide carried, since := since } :: rest)))) ∧
  ∀ l : Line,
    let two (n : Nat) : List Byte := [BitVec.ofNat 8 n, BitVec.ofNat 8 (n / 256)]
    let bit (b : Bool) : Byte := if b then 1 else 0
    let carries (slot : Slot) (dest : Addr) (kind : Byte) (body : List Byte) : Prop := ∃ bytes check,
      l.slotMessage slot = some bytes
        ∧ bytes = [BitVec.ofNat 8 (16 * dest.toNat + l.addr.toNat), kind, BitVec.ofNat 8 body.length] ++ body ++ [check]
        ∧ (bytes.map BitVec.toNat).sum % 256 = 0
    let notice (n : Notice) : List Byte := match n with
      | .carrierUp p =>
        [1, match p.mode with
          | .originate => 0
          | .answer => 1,
         match p.fmt.rate with
          | .b110 => 0
          | .b150 => 1
          | .b300 => 2,
         match p.fmt.data with
          | .seven => 0
          | .sevenEven => 1
          | .sevenOdd => 2
          | .sevenMark => 3
          | .sevenSpace => 4
          | .eight => 5,
         match p.fmt.stop with
          | .one => 1
          | .two => 2]
      | .carrierDown cause left =>
        [2, match cause with
          | .timeout => 1
          | .fade => 2
          | .handset => 3
          | .requested => 4,
         match left with
          | .idle => 0
          | .ready => 1
          | .loop => 2
          | .origWait => 3
          | .ansTone => 4
          | .online => 5
          | .fading => 6
          | .dropping => 7]
      | .handset seated muted => [3, bit seated, bit muted]
      | .printHeld cause h count =>
        [4, match cause with
          | .stopped => 1
          | .headHot => 2
          | .lowVoltage => 3
          | .batteryCritical => 4
          | .doorOpen => 5
          | .paperOut => 6
          | .budget => 7
          | .controllerHold => 8,
         bit h.stopped + 2 * bit h.headHot + 4 * bit h.lowVoltage + 8 * bit h.batteryCritical + 16 * bit h.doorOpen
           + 32 * bit h.paperOut + 64 * bit h.budget + 128 * bit h.controllerHold,
         count]
      | .printResumed count entered =>
        [5, count, match entered with
          | .idle => 0
          | .claiming => 1
          | .printing => 2
          | .held => 3]
      | .flow event =>
        [6, match event with
          | .stopSent => 0
          | .goSent => 1
          | .stopReceived => 2
          | .goReceived => 3]
      | .breakReceived n => [7, BitVec.ofNat 8 n]
      | .loopResult sent mismatches aborted => [8, BitVec.ofNat 8 sent, BitVec.ofNat 8 mismatches, bit aborted]
      | .keyLost => [9]
      | .budget granted available cause =>
        [10] ++ two (granted / 10) ++ two available ++ [match cause with
          | .settle => 0
          | .lower => 1
          | .park => 2
          | .doze => 3]
    (∀ c, l.claimSlot = some c → carries .claim 0 3 (two (c.mA / 10)))
      ∧ (∀ r rest, l.replies = r :: rest → carries .reply r.dest r.kind r.body)
      ∧ (∀ e rest, l.notices = e :: rest → carries .notice e.dest 0x23 (notice e.notice))
      ∧ (∀ k, l.keysSlot = some k → ∃ body, carries .keys k.dest 0x21 body ∧ body.length = 3 * k.records.length
          ∧ ∀ (i : Nat) (r : KeyRecord), k.records[i]? = some r → ∃ b : Byte,
              body[3 * i]? = some (BitVec.ofNat 8 r.pos) ∧ body[3 * i + 1]? = some b
                ∧ body[3 * i + 2]? = some (r.code.getD 0xFF)
                ∧ b.toNat % 4 = (match r.event with
                    | .down => 0
                    | .up => 1
                    | .again => 2)
                ∧ b.getLsbD 2 = r.shift ∧ b.getLsbD 3 = r.ctrl ∧ b.getLsbD 4 = r.caps ∧ b.getLsbD 5 = r.lostBefore)
      ∧ (∀ t, l.textSlot = some t → ∃ body, carries .text t.dest 0x22 body ∧ body.length = 2 * t.cells.length
          ∧ ∀ (i : Nat) (c : Cell), t.cells[i]? = some c → ∃ b : Byte,
              body[2 * i]? = some c.code ∧ body[2 * i + 1]? = some b
                ∧ b.getLsbD 0 = c.parity ∧ b.getLsbD 1 = c.framing ∧ b.getLsbD 2 = c.noise ∧ b.getLsbD 3 = c.lostBefore
                ∧ b.getLsbD 4 = c.lineBreak)
      ∧ (∀ n, l.presentSlot = some n → carries .present 0 1 [4, 1])

/-- The ends of an attempt (R179, R180): complete, the retry flag is cleared and the message leaves its slot; lost at a released
bit that reads 0 or faulted at a driven bit that reads 1, the retry flag is set and the message stays, or is discarded with its
sixteenth attempt. After a loss the receiver goes on with the bits read as the winner's (R175); after a line fault it looks for
a start edge, and one at the start bit leaves the idle count as it was (the model's choice: log entry 35). Each owner's action:
a CLAIM completed sets the completed claim and starts the settle of the raise it serves and the restatement (R161, R163, R167),
and one discarded ends that raise; a value handed meanwhile follows as a fresh message (R182); a reply is removed; a notice
changed during its attempt stays as a fresh message, a BREAK-RECEIVED with the breaks counted since the attempt began (R180,
R187); the copied records and cells are removed (R10, R51); PRESENT opens the setup window (R191). -/
def Obligations.AttemptEnds : Prop :=
  (∀ (s : State) (a : Attempt), s.line.attempt = some a →
    let bit := s.line.bit
    let bits := messageBits a.bytes
    (∃ u : State, exec .attemptCompleted s = .next (State.reviewed s (u.messageSent a.slot))
        ∧ u = (s.advanceTo (a.started + bits.length * bit - bit / 2)).setLine { s.line with
            attempt := none, retry := false, chars := .hunting, message := .waiting, wireLow := false
            readTo := a.started + bits.length * bit - bit / 2, wireSince := u.line.wireSince })
      ∧ (∀ k, bits[k]? = some true →
          ∃ u : State, exec (.attemptLost k) s = .next (State.reviewed s (u.messageFailed a.slot))
            ∧ (k % 11 = 10 → u.line.chars = .waitHigh ∧ u.line.message = .waiting)
            ∧ (k % 11 ≠ 10 →
                u.line.chars
                  = .reading (a.started + k / 11 * 11 * bit) ((bits.take k).drop (k / 11 * 11) ++ [false]))
            ∧ (k < 11 → u.line.message = .waiting)
            ∧ (11 ≤ k → k % 11 ≠ 10 → s.msg.op ≠ .doze → headSource (charAt a.bytes 0) = s.line.addr →
                u.line.message = .taking .conflict (a.bytes.take (k / 11)))
            ∧ u = (s.advanceTo (a.started + k * bit + bit / 2)).setLine { s.line with
                attempt := none, retry := true, chars := u.line.chars, message := u.line.message, wireLow := true
                readTo := a.started + k * bit + bit / 2, wireSince := u.line.wireSince })
      ∧ (∀ k, bits[k]? = some false →
          ∃ u : State, exec (.lineFault k) s = .next (State.reviewed s (u.messageFailed a.slot))
            ∧ (k = 0 → u.line.wireSince = a.highSince)
            ∧ u = (s.advanceTo (a.started + k * bit + bit / 2)).setLine { s.line with
                attempt := none, retry := true, chars := .hunting, message := .waiting, wireLow := false
                readTo := a.started + k * bit + bit / 2, wireSince := u.line.wireSince })) ∧
  (∀ (v : State) (c : ClaimSlot), v.line.claimSlot = some c →
    let next := c.next.map fun x => { mA := x, count := 0, next := none : ClaimSlot }
    let w := v.setLine { v.line with claimSlot := next }
    let restate := some (v.now + 1000000)
    let sent := { v.bud with completed := c.mA, restateTimer := if c.mA = 0 then none else restate }
    let dropped := { v.bud with restateTimer := if c.mA = 0 then v.bud.restateTimer else restate }
    (∀ x, c.next = none → v.bud.raise = .asking x →
        v.messageSent .claim = w.setBud { sent with raise := .settling x, settleTimer := some (v.now + 40000) })
      ∧ (c.next ≠ none ∨ (∀ x, v.bud.raise ≠ .asking x) → v.messageSent .claim = w.setBud sent)
      ∧ (c.next ≠ none → v.messageFailed .claim = w)
      ∧ (c.next = none → c.count < 16 → v.messageFailed .claim = v)
      ∧ (∀ x, c.next = none → 16 ≤ c.count → v.bud.raise = .asking x →
          v.messageFailed .claim = w.setBud { dropped with
            raise := .none, own := v.bud.completed, barrierTimer := some (v.now + v.line.addr.toNat * 100000) })
      ∧ (c.next = none → 16 ≤ c.count → (∀ x, v.bud.raise ≠ .asking x) → v.messageFailed .claim = w.setBud dropped)) ∧
  (∀ v : State,
    v.messageSent .reply = v.setLine { v.line with replies := v.line.replies.tail }
      ∧ (∀ e rest, v.line.replies = e :: rest →
          v.messageFailed .reply = v.setLine { v.line with replies := if 16 ≤ e.count then rest else e :: rest })
      ∧ (∀ e rest, v.line.notices = e :: rest →
          let left (q : List NoticeEntry) := v.setLine { v.line with notices := q }
          let fresh := { e with count := 0, changed := false, since := 0 }
          (e.changed = false → v.messageSent .notice = left rest)
            ∧ (∀ k, e.changed = true → e.notice = .breakReceived k →
                v.messageSent .notice = left ({ fresh with notice := .breakReceived e.since } :: rest))
            ∧ (e.changed = true → (∀ k, e.notice ≠ .breakReceived k) → v.messageSent .notice = left (fresh :: rest))
            ∧ (e.changed = true → v.messageFailed .notice = left (fresh :: rest))
            ∧ (e.changed = false → v.messageFailed .notice = left (if 16 ≤ e.count then rest else e :: rest)))
      ∧ v.messageSent .keys
          = (v.setKbd { v.kbd with fifo := v.kbd.fifo.drop v.kbd.inMessage, inMessage := 0 }).setLine
              { v.line with keysSlot := none }
      ∧ (∀ k, v.line.keysSlot = some k → v.messageFailed .keys = if 16 ≤ k.count then v.messageSent .keys else v)) ∧
  ∀ v : State,
    (let w := v.takeText v.pool.fwqInMessage
     v.messageSent .text
        = ((w.setPool { w.pool with fwqInMessage := 0 }).setLine { w.line with textSlot := none }).arrival)
      ∧ v.takeText 0 = v
      ∧ (∀ n, (∀ cell w, v.takeCell .fwq = some (cell, w) → v.takeText (n + 1) = w.takeText n)
          ∧ (v.takeCell .fwq = none → v.takeText (n + 1) = v))
      ∧ (∀ m, v.line.textSlot = some m → v.messageFailed .text = if 16 ≤ m.count then v.messageSent .text else v)
      ∧ (let w := v.setLine { v.line with presentSlot := none }
         (v.msg.window = .waitingPresent →
            v.messageSent .present
              = w.setMsg { v.msg with window := .opened, windowTimer := some (v.now + 2000000) })
          ∧ (v.msg.window ≠ .waitingPresent → v.messageSent .present = w))
      ∧ (∀ n, v.line.presentSlot = some n →
          v.messageFailed .present = if 16 ≤ n then v.messageSent .present else v)

/-- What the receiver makes of the wire. A character is eleven bits, a start bit of 0, the data bits, the marker and a stop bit
of 1, and a message's head alone has the marker (R173, R174). A bit is read at its middle (R173): a start bit of 1 is a false
start, a stop bit of 0 a framing error, and the eleventh bit completes the character. A marker character begins a new message
by the head test, in DOZE by that of R194 (R175); any other is the next character of a message being taken, whose length and
check are judged as they complete (R174, R176). A short low leaves the receiver looking; 24 bit times of low are a break, and
the rise after it lets the receiver look again; 14 bit times of high discard a message being taken (R172, R176). A wave that
brings a break or a discard alone and at its end is that event's command, and any other leaves everything alone (the model's
choice: log entry 6). A message named by its kind leaves the receiver waiting, half a bit into its high stop bit. (That the
idle count runs from the end of the last low bit is the model's choice, log entry 17, and so is the level read where a reading
falls on an edge, log entry 46.) -/
def Obligations.ReceiverRules : Prop :=
  (∀ (s : State) (t : Nat),
    let u := s.advanceTo t
    s.heard t = u.setLine { u.line with
      chars := .hunting, message := .waiting, readTo := u.now, wireLow := false, wireSince := u.now - s.line.bit / 2 }) ∧
  (∀ (marker : Bool) (c head : Byte) (rest bytes : List Byte),
    charBits marker c
        = [false, c.getLsbD 0, c.getLsbD 1, c.getLsbD 2, c.getLsbD 3, c.getLsbD 4, c.getLsbD 5, c.getLsbD 6, c.getLsbD 7,
           marker, true]
      ∧ messageBits (head :: rest) = charBits true head ++ rest.flatMap (charBits false)
      ∧ c.toNat = 16 * (headDest c).toNat + (headSource c).toNat
      ∧ (byteSum bytes).toNat = (bytes.map BitVec.toNat).sum % 256) ∧
  (∀ (s : State) (wave : Wave),
    let h := s.hear wave
    let u := (s.advanceTo h.line.readTo).setLine h.line
    let brings (e : WireEvent) := s.line.attempt = none ∧ h.events = [(h.line.readTo, e)]
    (brings .lineBreak → exec (.wireBreak wave) s = .next u)
      ∧ (¬ brings .lineBreak → exec (.wireBreak wave) s = .next s)
      ∧ (∀ c, brings (.rejected c) → exec (.messageRejected wave c) s = .next u)
      ∧ (∀ c, ¬ brings (.rejected c) → exec (.messageRejected wave c) s = .next s)) ∧
  (∀ (h : Hearing) (doze : Bool) (t edge : Nat) (bits : List Bool) (high : Bool) (e : WireEvent),
    let reads (c : CharState) : Hearing := { h with line := { h.line with chars := c } }
    h.readBit doze t edge [] true = reads .hunting
      ∧ (bits.length < 10 → bits ≠ [] ∨ high = false → h.readBit doze t edge bits high = reads (.reading edge (bits ++ [high])))
      ∧ (∀ c : Byte,
          h.readBit doze t edge ((charBits true c).take 10) true = (reads .hunting).takeMarker doze t c
            ∧ h.readBit doze t edge ((charBits false c).take 10) true = (reads .hunting).takeNext t c)
      ∧ (bits.length = 10 → h.readBit doze t edge bits false = (reads .waitHigh).drop t (.rejected .framing))
      ∧ (h.line.message = .waiting → h.drop t e = h)
      ∧ (∀ p soFar, h.line.message = .taking p soFar →
          h.drop t e = { line := { h.line with message := .waiting }, events := h.events ++ [(t, e)] })) ∧
  (∀ (h : Hearing) (t : Nat) (c : Byte),
    let l := h.line
    let own := headSource c = l.addr
    let mine := headDest c = l.addr
    let begun (w : Hearing) (m : MessageState) : Hearing := { w with line := { w.line with message := m } }
    h.takeMarker false t c
        = begun (h.drop t (.rejected (.newMarker c)))
            (if own then .taking .conflict [c] else if mine ∨ headDest c = 0 then .taking .delivery [c] else .waiting)
      ∧ h.takeMarker true t c
        = begun { h with events := h.events ++ [(t, .marker c)] }
            (if mine then if own then .taking .conflict [c] else .taking .delivery [c] else .waiting)
      ∧ (l.message = .waiting → h.takeNext t c = h)
      ∧ (∀ p soFar, l.message = .taking p soFar → soFar.length < 2 →
          h.takeNext t c = begun h (.taking p (soFar ++ [c])))
      ∧ (∀ p a b, l.message = .taking p [a, b] →
          (64 < c.toNat → h.takeNext t c = h.drop t (.rejected .badLength))
            ∧ (c.toNat ≤ 64 → h.takeNext t c = begun h (.taking p [a, b, c])))
      ∧ (∀ p a b len rest, l.message = .taking p (a :: b :: len :: rest) → len.toNat ≤ 64 →
          let all := a :: b :: len :: rest ++ [c]
          (rest.length < len.toNat → h.takeNext t c = begun h (.taking p all))
            ∧ (rest.length = len.toNat →
                (byteSum all = 0 → h.takeNext t c = h.drop t (.complete p all))
                  ∧ (byteSum all ≠ 0 → h.takeNext t c = h.drop t (.rejected .badCheck))))) ∧
  ∀ (l : Line) (doze : Bool) (n k : Nat), 0 < n →
    let bit := if l.fast then 16 else 64
    (l.chars = .hunting → l.wireLow = false → n < bit / 2 → bit / 2 ≤ n + k → k < 14 * bit →
        l.hear doze [{ high := false, length := n }, { high := true, length := k }]
          = { line := { l with readTo := l.readTo + n + k, wireSince := l.readTo + n }, events := [] })
      ∧ (l.chars = .hunting → l.message = .waiting → l.wireLow = false →
          l.hear doze [{ high := false, length := 24 * bit }]
            = { line := { l with
                  chars := .waitHigh, readTo := l.readTo + 24 * bit, wireLow := true, wireSince := l.readTo }
                events := [(l.readTo + 24 * bit, .lineBreak)] })
      ∧ (l.chars = .waitHigh → l.wireLow = true → n < 14 * bit →
          l.hear doze [{ high := true, length := n }]
            = { line := { l with
                  chars := .hunting, readTo := l.readTo + n, wireLow := false, wireSince := l.readTo }
                events := [] })
      ∧ (∀ p soFar, l.chars = .hunting → l.message = .taking p soFar → l.wireLow = false →
          l.readTo < l.wireSince + 14 * bit → l.wireSince + 14 * bit ≤ l.readTo + n →
          l.hear doze [{ high := true, length := n }]
            = { line := { l with message := .waiting, readTo := l.readTo + n }
                events := [(l.wireSince + 14 * bit, .rejected .idleWire)] })

/-- Reception whole (R173, R174, R175, R177, R184): the wave of a message of any kind and body up to 64 characters, sent bit by
bit after any time of high wire, is read by a receiver that looks for a start edge, and what it then does is the command that
its head and kind name, at the middle of its check's stop bit; here for the kinds, with an action or two of CALL and PRINT
CONTROL. One for another station is passed over and leaves the receiver waiting; one from the part's own address makes it
listen-only: every slot and queue is empty, an attempt, the gathers with their due flags and the wait for the PRESENT are
ended, the setup window opens if it still waited for the PRESENT (R191), the key FIFO is emptied and FWQ discarded (R11, R51),
the Budget Unit releases its figures without a handed value or a notice (R169), and BUDGET leaves the set of hold conditions,
or an engine in CLAIMING makes the work test (R142, R146); a second conflict changes nothing more. That a message passed over
stands in the wave of the next command is the model's choice (log entry 6), and so are the stop of the wait for the PRESENT at
entry to listen-only (log entry 20) and that a command of a kind from the own address is a conflict too (log entry 39). The
messages that R184 ignores leave no trace but the receiver's: broadcast, every kind but ALLOWANCE, CLAIM, PRESENT and RESTART;
addressed, the kinds 01h to 03h and 20h to 24h; and a RESTART, ALLOWANCE, CLAIM or PRESENT of another length than its own. -/
def Obligations.MessageDelivered : Prop :=
  ∀ (s : State) (sense : Sense) (gap : Nat) (src : Addr) (body : List Byte),
    body.length ≤ 64 → s.line.addr ≠ 0 → s.line.attempt = none → s.msg.op ≠ .doze →
    s.line.chars = .hunting → s.line.message = .waiting → s.line.wireLow = false →
    let bit := s.line.bit
    let wave (dest : Addr) (kind : Byte) (body : List Byte) := messageWave bit gap (messageOf dest src kind body)
    let ends (body : List Byte) := s.line.readTo + gap + 11 * (body.length + 4) * bit - bit / 2
    s.now ≤ ends body →
    let whole (dest : Addr) (kind : Byte) (body : List Byte) := exec (.messageReceived (wave dest kind body) sense) s
    let same (x : Host.Outcome State Fault Refusal) (c : Instr) := ∃ t : State, x = .next t ∧ exec c s = .next t
    let m : Moment := { t := ends body, sense := sense }
    same (whole 0 0x02 body) (.allowance m src body)
      ∧ same (whole 0 0x03 body) (.claim m src body)
      ∧ same (whole 0 0x01 body) (.present m src body)
      ∧ same (whole 0 0x18 body) (.restart m src true body)
      ∧ same (whole s.line.addr 0x18 body) (.restart m src false body)
      ∧ same (whole s.line.addr 0x10 body) (.setup m src body)
      ∧ same (whole s.line.addr 0x11 body) (.printText m src body)
      ∧ same (whole s.line.addr 0x12 body) (.sendText m src body)
      ∧ same (whole s.line.addr 0x15 body) (.routing m src body)
      ∧ same (whole s.line.addr 0x16 body) (.statusQuery m src body)
      ∧ same (whole s.line.addr 0x17 body) (.doze m src body)
      ∧ same (whole s.line.addr 0x19 body) (.rawDotLine m src body)
      ∧ (∀ kind, kindKnown kind = false → same (whole s.line.addr kind body) (.unknownKind m src kind body))
      ∧ (body.length ≤ 63 →
          let m' : Moment := { t := ends (0 :: body), sense := sense }
          same (whole s.line.addr 0x13 (0 :: body)) (.originate m' src body)
            ∧ same (whole s.line.addr 0x13 (2 :: body)) (.drop m' src body)
            ∧ same (whole s.line.addr 0x14 (0 :: body)) (.hold m' src body)
            ∧ same (whole s.line.addr 0x14 (5 :: body)) (.setWidth m' src body))
      ∧ (∀ dest kind, src ≠ s.line.addr → dest ≠ 0 → dest ≠ s.line.addr →
          whole dest kind body = .next s
            ∧ (s.hear (wave dest kind body)).events = []
            ∧ (s.hear (wave dest kind body)).line = (s.heard (ends body)).line)
      ∧ (∀ kind, src ≠ s.line.addr →
          let ignored (dest : Addr) := whole dest kind body = .next (State.reviewed s (s.heard (ends body)))
          (kind ∉ [(0x01 : Byte), 0x02, 0x03, 0x18] → ignored 0)
            ∧ (kind ∈ [(0x01 : Byte), 0x02, 0x03, 0x20, 0x21, 0x22, 0x23, 0x24] → ignored s.line.addr)
            ∧ (kind = 0x18 → body ≠ [] → ignored 0 ∧ ignored s.line.addr)
            ∧ (kind = 0x02 ∧ body.length ≠ 3 ∨ kind ∈ [(0x01 : Byte), 0x03] ∧ body.length ≠ 2 → ignored 0))
      ∧ (∀ dest kind, src = s.line.addr → s.line.listenOnly = false →
          ∃ t : State, whole dest kind body = .next t ∧ t.line.listenOnly = true ∧ t.line.claimSlot = none ∧ t.line.replies = []
            ∧ t.line.keysSlot = none ∧ t.line.textSlot = none ∧ t.line.presentSlot = none
            ∧ t.pool.fwq = [] ∧ t.kbd.fifo = [] ∧ t.bud.own = 0 ∧ t.bud.granted = 0 ∧ t.eng.budgetAsked = false)
      ∧ (∀ dest kind, src = s.line.addr →
          let u := s.heard (ends body)
          let opens := s.msg.window = .waitingPresent
          let silenced := (((u.setLine { u.line with
            listenOnly := true, claimSlot := none, replies := [], notices := [], keysSlot := none, textSlot := none
            presentSlot := none, attempt := none }).setMsg { s.msg with
            keysTimer := none, keysDue := false, textTimer := none, textDue := false, presentTimer := none
            window := if opens then .opened else s.msg.window
            windowTimer := if opens then some (u.now + 2000000) else s.msg.windowTimer }).setKbd { s.kbd with
            fifo := [], inMessage := 0, keyLost := false }).setBud { s.bud with
            own := 0, granted := 0, raise := .none, settleTimer := none, restateTimer := none, parkTimer := none
            barrierTimer := none }
          let v := silenced.changePool { s.pool with
            free := s.pool.fwq.reverse.map Block.id ++ s.pool.free, fwq := [], fwqLost := false, fwqInMessage := 0 }
          let w := v.setEng { s.eng with budgetAsked := false }
          let h : HoldSet := { s.eng.holds with budget := false }
          let after (x : State) := whole dest kind body = .next (State.reviewed s x.arrival)
          (s.line.listenOnly = true → whole dest kind body = .next (State.reviewed s u))
            ∧ (s.line.listenOnly = false →
                (s.eng.holds.budget = true → h.any = true → after (w.applyHolds h))
                  ∧ (s.eng.holds.budget = true → h.any = false → after (w.leaveHeld sense))
                  ∧ (s.eng.holds.budget = false → s.eng.st = .claiming → after (w.workTest sense))
                  ∧ (s.eng.holds.budget = false → s.eng.st ≠ .claiming → after w)))

/-! ## The Message Unit -/

/-- The tests of a request (R184, R185): with the reply queue full it is lost; in START it is BUSY, NOT-IN-STATE; with a body
whose length does not suit its kind, or its action, it is REFUSED, BAD-LENGTH, while the text kinds take any length; an action
outside the set is OUT-OF-RANGE before the length is judged (R148), a body without an action BAD-LENGTH (the model's choice,
log entry 25); an unknown kind is REFUSED, UNKNOWN-KIND in every state. A STATUS QUERY without a body is answered by a STATUS
with the figures of that moment, in START too: the 42 characters that R17, R137, R171, R188 and R195 name, one by one, but for
the bits that R195 leaves open (log entries 2 and 3). A STATUS or a REPLY joins the reply queue at its tail with an attempt
count of 0 (R186); a REPLY carries the kind, the outcome and the reason by their codes, and none is queued while
listen-only. -/
def Obligations.RequestTests : Prop :=
  (∀ (s : State) (m : Moment) (src : Addr) (body : List Byte) (c : Instr) (kind : Byte) (fits : Option Nat),
    s.line.attempt = none → s.msg.op ≠ .doze → src ≠ s.line.addr →
    (c, kind, fits) ∈ [(.printText m src body, (0x11 : Byte), (none : Option Nat)), (.sendText m src body, 0x12, none),
      (.originate m src body, 0x13, some 3), (.answer m src body, 0x13, some 3), (.drop m src body, 0x13, some 0),
      (.breakRequest m src body, 0x13, some 0), (.loopTest m src body, 0x13, some 0), (.hold m src body, 0x14, some 0),
      (.resume m src body, 0x14, some 0), (.stopNow m src body, 0x14, some 0), (.stepLine m src body, 0x14, some 0),
      (.setDarkness m src body, 0x14, some 1), (.setWidth m src body, 0x14, some 1), (.routing m src body, 0x15, some 4),
      (.doze m src body, 0x17, some 0), (.rawDotLine m src body, 0x19, some 60)] →
    let u := s.heard m.t
    (4 ≤ s.line.replies.length → exec c s = .next (State.reviewed s u))
      ∧ (s.line.replies.length < 4 → s.msg.op = .start →
          exec c s = .next (State.reviewed s (u.reply src kind (.busy .notInState))))
      ∧ (s.line.replies.length < 4 → s.msg.op = .run → ∀ n, fits = some n → body.length ≠ n →
          exec c s = .next (State.reviewed s (u.reply src kind (.refused .badLength))))) ∧
  (∀ (s : State) (src : Addr) (sense : Sense) (action : Byte) (args : List Byte), s.line.replies.length < 4 → s.msg.op = .run →
    (5 ≤ action.toNat →
        s.addressedByKind src 0x13 (action :: args) sense = s.reply src 0x13 (.refused .outOfRange))
      ∧ (6 ≤ action.toNat →
          s.addressedByKind src 0x14 (action :: args) sense = s.reply src 0x14 (.refused .outOfRange))
      ∧ s.addressedByKind src 0x13 [] sense = s.reply src 0x13 (.refused .badLength)
      ∧ s.addressedByKind src 0x14 [] sense = s.reply src 0x14 (.refused .badLength)) ∧
  (∀ (s : State) (m : Moment) (src : Addr) (kind : Byte) (body : List Byte),
    s.line.attempt = none → s.msg.op ≠ .doze → src ≠ s.line.addr → s.line.replies.length < 4 →
    let u := s.heard m.t
    (kindKnown kind = false →
        exec (.unknownKind m src kind body) s = .next (State.reviewed s (u.reply src kind (.refused .unknownKind))))
      ∧ exec (.statusQuery m src []) s = .next (State.reviewed s (u.queueEntry src 0x24 u.statusBody))
      ∧ (body ≠ [] →
          exec (.statusQuery m src body) s = .next (State.reviewed s (u.reply src 0x16 (.refused .badLength))))) ∧
  (∀ s : State, s.msg.op ≠ .doze →
    let b (i : Nat) : Byte := (s.statusBody[i]?).getD 0
    let two (i n : Nat) := b i = BitVec.ofNat 8 n ∧ b (i + 1) = BitVec.ofNat 8 (n / 256)
    let flags (i : Nat) (bits : List Bool) := ∀ k f, bits[k]? = some f → (b i).getLsbD k = f
    let imageCode (st : ImageState) := match st with
      | .free => 0
      | .opened => 1
      | .waiting => 2
      | .printing => 3
    let dropCause := match s.call.dropCause with
      | none => 0
      | some .timeout => 1
      | some .fade => 2
      | some .handset => 3
      | some .requested => 4
    let h := s.eng.holds
    s.statusBody.length = 42
      ∧ b 0 = (if s.msg.op = .start then 0 else 1)
      ∧ flags 1 [s.line.listenOnly, s.router.localMode, s.kbd.caps, s.router.remoteStopped, s.pool.prqLost, s.pool.fwqLost,
          s.call.seated, s.call.muted]
      ∧ b 2 = BitVec.ofNat 8 s.pool.free.length ∧ b 3 = BitVec.ofNat 8 s.pool.txq.length
      ∧ b 4 = BitVec.ofNat 8 s.pool.prq.length ∧ b 5 = BitVec.ofNat 8 s.pool.fwq.length
      ∧ (b 6).toNat
          = (match s.router.routing.duplex with
              | .full => 0
              | .half => 1)
            + 2 * (match s.router.routing.target with
              | .line => 0
              | .controller => 1
              | .both => 2)
            + 8 * (match s.router.routing.copy with
              | .print => 0
              | .controller => 1
              | .both => 2)
            + 32 * s.router.routing.echo.toNat
            + 64 * (match s.router.flow with
              | .clear => 0
              | .pendingStop => 1
              | .stopped => 2
              | .pendingGo => 3)
      ∧ b 7 = BitVec.ofNat 8 s.kbd.fifo.length
      ∧ b 8 = (match s.call.st with
          | .idle => 0
          | .ready => 1
          | .loop => 2
          | .origWait => 3
          | .ansTone => 4
          | .online => 5
          | .fading => 6
          | .dropping => 7)
      ∧ (b 9).getLsbD 0 = s.call.breakInProgress ∧ (b 9).toNat / 4 % 8 = dropCause
      ∧ (b 9).getLsbD 5 = s.call.params.isSome
      ∧ (∀ p, s.call.params = some p →
          (b 9).getLsbD 1 = decide (p.mode = .answer)
            ∧ rateOf (b 10) = some p.fmt.rate ∧ dataOf (b 11) = some p.fmt.data ∧ stopOf (b 12) = some p.fmt.stop)
      ∧ (b 13).toNat % 16 = imageCode s.asm.image1.st + 4 * imageCode s.asm.image2.st
      ∧ b 14 = BitVec.ofNat 8 s.asm.formPosition
      ∧ (b 15).toNat % 16
          = (match s.eng.st with
              | .idle => 0
              | .claiming => 1
              | .printing => 2
              | .held => 3)
            + 4 * (match s.eng.step with
              | .none => 0
              | .line _ => 1
              | .dot => 2)
      ∧ flags 16 [h.stopped, h.headHot, h.lowVoltage, h.batteryCritical, h.doorOpen, h.paperOut, h.budget, h.controllerHold]
      ∧ b 17 = (match s.eng.cause with
          | none => 0
          | some .stopped => 1
          | some .headHot => 2
          | some .lowVoltage => 3
          | some .batteryCritical => 4
          | some .doorOpen => 5
          | some .paperOut => 6
          | some .budget => 7
          | some .controllerHold => 8)
      ∧ b 18 = s.eng.holdCount ∧ b 19 = s.eng.vc ∧ b 20 = s.eng.tc ∧ b 21 = BitVec.ofNat 8 s.eng.dotCurrent
      ∧ two 22 s.eng.lastHeat ∧ b 24 = BitVec.ofNat 8 s.eng.lastBursts
      ∧ two 25 (s.bud.allowance / 10)
      ∧ (b 27).toNat % 4 = (match s.bud.battery with
          | .normal => 0
          | .low => 1
          | .critical => 2
          | .unknown => 3)
      ∧ (b 27).getLsbD 2 = s.bud.recordFresh
      ∧ (b 27).toNat / 16 % 4 = (match s.bud.raise with
          | .none => 0
          | .asking _ => 1
          | .settling _ => 2)
      ∧ b 28 = BitVec.ofNat 8 s.bud.table.length ∧ two 29 (s.bud.tableSum / 10)
      ∧ b 31 = BitVec.ofNat 8 s.fixedLoad ∧ two 32 s.available ∧ two 34 (s.desired / 10) ∧ two 36 (s.bud.own / 10)
      ∧ two 38 (s.bud.completed / 10) ∧ two 40 (s.bud.granted / 10)) ∧
  (∀ (s : State) (dest : Addr) (kind : Byte) (body : List Byte),
    (s.line.listenOnly = true → s.queueEntry dest kind body = s)
      ∧ (s.line.listenOnly = false →
          s.queueEntry dest kind body = s.setLine { s.line with
            replies := s.line.replies ++ [{ dest := dest, kind := kind, body := body, count := 0 }] })) ∧
  (Answer.accepted.outcome = 0 ∧ Answer.adjusted.outcome = 1
    ∧ Answer.accepted.reason = .none ∧ Answer.adjusted.reason = .none
    ∧ (∀ r, (Answer.busy r).outcome = 2 ∧ (Answer.busy r).reason = r
        ∧ (Answer.refused r).outcome = 3 ∧ (Answer.refused r).reason = r)
    ∧ ([.none, .notInState, .offline, .noRoom, .outOfRange, .unknownKind, .badLength, .setupClosed, .handsetNotSeated,
        .callActive] : List Reason).map Reason.code = [0, 1, 2, 3, 4, 5, 6, 7, 8, 9]) ∧
  (∀ kind : Byte, kindKnown kind = true ↔
    (1 ≤ kind.toNat ∧ kind.toNat ≤ 3) ∨ (0x10 ≤ kind.toNat ∧ kind.toNat ≤ 0x19)
      ∨ (0x20 ≤ kind.toNat ∧ kind.toNat ≤ 0x24)) ∧
  ∀ (s : State) (src : Addr) (kind : Byte) (a : Answer),
    (s.line.listenOnly = true → s.reply src kind a = s)
      ∧ (s.line.listenOnly = false →
          s.reply src kind a = s.setLine { s.line with
            replies := s.line.replies ++ [{ dest := src, kind := 0x20, body := [kind, a.outcome, a.reason.code], count := 0 }] })

/-- The gathers (R183, R10, R51): at the timer's end the gather is due. At the end of each step, only in RUN and while not
listen-only, each timer is started when the unsent items rise from none, for 10 ms with key records and 20 ms with received
cells; 32 or more unsent cells make their gather due at once; and a gather that is due, with items unsent and none in a
message, builds a message of the first 8 records or 32 cells for the controller. A build that leaves none unsent stops the
timer and clears the due flag; one that leaves some keeps both. (That the unsent items are compared over a whole step is the
model's choice: log entry 11.) -/
def Obligations.GatherExpiry : Prop :=
  (∀ (s : State) (d : Nat), s.msg.keysTimer = some d →
    let u := s.advanceTo d
    exec .keysGatherExpiry s = .next (State.reviewed s (u.setMsg { u.msg with keysTimer := none, keysDue := true }))) ∧
  (∀ (s : State) (d : Nat), s.msg.textTimer = some d →
    let u := s.advanceTo d
    exec .receivedTextGatherExpiry s = .next (State.reviewed s (u.setMsg { u.msg with textTimer := none, textDue := true }))) ∧
  (∀ before s : State,
    let keys (x : State) := x.kbd.fifo.length - x.kbd.inMessage
    let cells (x : State) := (chainCells x.pool.fwq).length - x.pool.fwqInMessage
    let runs := s.msg.op = .run ∧ s.line.listenOnly = false
    (¬ runs → State.keysGather before s = s ∧ State.textGather before s = s)
      ∧ (runs → keys before = 0 → 0 < keys s →
          State.keysGather before s = (s.setMsg { s.msg with keysTimer := some (s.now + 10000) }).buildKeys)
      ∧ (runs → (keys before ≠ 0 ∨ keys s = 0) → State.keysGather before s = s.buildKeys)
      ∧ (runs → ∃ timer due : State,
          (cells before = 0 → 0 < cells s → timer = s.setMsg { s.msg with textTimer := some (s.now + 20000) })
            ∧ (cells before ≠ 0 ∨ cells s = 0 → timer = s)
            ∧ (32 ≤ cells s → due = timer.setMsg { timer.msg with textDue := true })
            ∧ (cells s < 32 → due = timer)
            ∧ State.textGather before s = due.buildText)) ∧
  (∀ s : State,
    (s.msg.keysDue = false ∨ s.kbd.inMessage ≠ 0 ∨ s.kbd.fifo = [] → s.buildKeys = s)
      ∧ (s.msg.keysDue = true → s.kbd.inMessage = 0 → s.kbd.fifo ≠ [] →
          s.buildKeys = ((s.setKbd { s.kbd with inMessage := min 8 s.kbd.fifo.length }).setLine { s.line with
              keysSlot := some { dest := s.msg.setup.controller, records := s.kbd.fifo.take 8, count := 0 } }).setMsg
                (if s.kbd.fifo.length ≤ 8 then { s.msg with keysTimer := none, keysDue := false } else s.msg))) ∧
  ∀ s : State,
    (s.msg.textDue = false ∨ s.pool.fwqInMessage ≠ 0 ∨ chainCells s.pool.fwq = [] → s.buildText = s)
      ∧ (s.msg.textDue = true → s.pool.fwqInMessage = 0 → chainCells s.pool.fwq ≠ [] →
          let cells := chainCells s.pool.fwq
          s.buildText = ((s.setPool { s.pool with fwqInMessage := min 32 cells.length }).setLine { s.line with
              textSlot := some { dest := s.msg.setup.controller, cells := cells.take 32, count := 0 } }).setMsg
                (if cells.length ≤ 32 then { s.msg with textTimer := none, textDue := false } else s.msg))

/-- SETUP (R189, R191, R195): after the window it is REFUSED, SETUP-CLOSED; before, a body of 22 characters is taken whole, each
value brought into its range and an undefined code to its default, with the routing, the staged darkness and the form position
(R18, R101, R113); the queued notices take their destinations from the new routing, one now OFF leaving the queue (R187); the
window closes and the part is in RUN, its KEYS timer started if records are unsent (R183). The answer is ADJUSTED exactly when a
value had to be changed, and otherwise ACCEPTED. Every field of the record stays in its range at every step. (A controller
address of 16 to 255 becomes one of 1 to 14, ADJUSTED, and a sender of 0 or 15 is taken as it is: the model's choice, log entries
4 and 52.) -/
def Obligations.SetupTaken : Prop :=
  (∀ (s : State) (m : Moment) (src : Addr) (body : List Byte),
    s.line.attempt = none → s.msg.op ≠ .doze → src ≠ s.line.addr → s.line.replies.length < 4 →
    let u := s.heard m.t
    (s.msg.window = .closed →
        exec (.setup m src body) s = .next (State.reviewed s (u.reply src 0x10 (.refused .setupClosed))))
      ∧ (s.msg.window ≠ .closed → body.length ≠ 22 →
          exec (.setup m src body) s = .next (State.reviewed s (u.reply src 0x10 (.refused .badLength))))
      ∧ (s.msg.window ≠ .closed → body.length = 22 →
          let c (i : Nat) : Nat := ((body[i]?).getD 0).toNat
          let option_ (i : Nat) : Bool := ((body[8]?).getD 0).getLsbD i
          let routeCode (i : Nat) : Nat := c (18 + i / 4) / 4 ^ (i % 4) % 4
          let target := c 21 / 2 % 4
          let copy := c 21 / 8 % 4
          ∃ (r : Setup) (t : State),
            r = { controller := r.controller
                  dotOhms := max 100 (min 400 (c 1 + 256 * c 2))
                  ceiling := max 300 (min 3000 (10 * (c 3 + 256 * c 4)))
                  motor := max 100 (min 800 (10 * c 5))
                  darkness := min 7 (c 6)
                  formLength := if c 7 = 0 then 0 else max 20 (min 132 (c 7))
                  truncate := option_ 0, strip := option_ 1, click := option_ 2, flowEnable := option_ 3, loud := option_ 4
                  flushSeconds := min 9 (c 9)
                  repeatDelay := max 250 (min 1000 (50 * c 10))
                  repeatRate := max 5 (min 30 (c 11))
                  stopCode := (body[12]?).getD 0, goCode := (body[13]?).getD 0
                  lowMark := max 4 (min 24 (c 14))
                  highMark := max (r.lowMark + 8) (min 48 (c 15))
                  carrierWait := max 10 (min 60 (c 16))
                  fadeLimit := max 100 (min 1000 (10 * c 17))
                  routes := (List.range 10).map fun i => match routeCode i with
                    | 0 => .off
                    | 1 => .controller
                    | 2 => .all
                    | _ => if i = 9 then .all else .controller
                  routing :=
                    { duplex := if c 21 % 2 = 1 then .half else .full
                      target := if target = 1 then .controller else if target = 2 then .both else .line
                      copy := if copy = 1 then .controller else if copy = 2 then .both else .print
                      echo := decide (c 21 / 32 % 2 = 1) } }
              ∧ (c 0 = 0 ∨ c 0 = 15 ∨ c 0 = s.line.addr.toNat → r.controller = src)
              ∧ (1 ≤ c 0 → c 0 ≤ 14 → c 0 ≠ s.line.addr.toNat → r.controller.toNat = c 0)
              ∧ (16 ≤ c 0 → 1 ≤ r.controller.toNat ∧ r.controller.toNat ≤ 14)
              ∧ t = (((u.setMsg { s.msg with
                    setup := r, op := .run, window := .closed, windowTimer := none
                    keysTimer := if s.kbd.inMessage < s.kbd.fifo.length ∧ s.line.listenOnly = false
                      then some (u.now + 10000) else s.msg.keysTimer }).setRouter { s.router with
                    routing := r.routing }).setAsm { s.asm with stagedDarkness := r.darkness, formPosition := 0 }).setLine
                  { u.line with notices := s.line.notices.filterMap fun e => match r.route e.notice.kind with
                    | .off => none
                    | .controller => some { e with dest := r.controller }
                    | .all => some { e with dest := 0 } }
              ∧ r.Law
              ∧ (let changed := c 0 ≠ 0 ∧ (c 0 = s.line.addr.toNat ∨ 15 ≤ c 0)
                  ∨ r.dotOhms ≠ c 1 + 256 * c 2 ∨ r.ceiling ≠ 10 * (c 3 + 256 * c 4) ∨ r.motor ≠ 10 * c 5
                  ∨ r.darkness ≠ c 6 ∨ r.formLength ≠ c 7 ∨ r.flushSeconds ≠ c 9 ∨ r.repeatDelay ≠ 50 * c 10 ∨ r.repeatRate ≠ c 11
                  ∨ r.lowMark ≠ c 14 ∨ r.highMark ≠ c 15 ∨ r.carrierWait ≠ c 16 ∨ r.fadeLimit ≠ 10 * c 17
                  ∨ (∃ i, i < 10 ∧ routeCode i = 3) ∨ target = 3 ∨ copy = 3
                 (changed → exec (.setup m src body) s = .next (State.reviewed s (t.reply src 0x10 .adjusted)))
                   ∧ (¬ changed → exec (.setup m src body) s = .next (State.reviewed s (t.reply src 0x10 .accepted)))))) ∧
  ∀ s t : State, s.msg.setup.Law → step s = .next t → t.msg.setup.Law

/-- DOZE (R193): taken while everything is idle and empty, it is pending and the claim is released: the raise is abandoned, the
own claim and the granted budget become 0 with a BUDGET notice for a change, the park, restate, settle and barrier timers stop,
and a value of 0 is handed to the CLAIM slot where the own or the completed claim is above 0, but not while listen-only (R170);
taken while already pending it is ACCEPTED and changes nothing; otherwise it is BUSY, NOT-IN-STATE. With the CLAIM slot and the
reply queue empty the part enters DOZE if the conditions still hold, and else stays in RUN. (That the first doze scan comes 50
ms after the entry, that an attempt in progress runs on, and that the time of the last shift is kept, is the model's choice:
log entries 9, 30 and 32.) -/
def Obligations.DozeEntered : Prop :=
  (∀ (s : State) (m : Moment) (src : Addr), s.Takes src →
    let u := s.heard m.t
    let quiet (i : Image) := i.st = .free ∨ (i.st = .opened ∧ i.isEmpty = true)
    let ready := s.eng.st = .idle ∧ quiet s.asm.image1 ∧ quiet s.asm.image2
      ∧ (s.call.st = .idle ∨ s.call.st = .ready) ∧ s.pool.txq = [] ∧ s.pool.prq = [] ∧ s.pool.fwq = []
    let handsZero := s.line.listenOnly = false ∧ (0 < s.bud.own ∨ 0 < s.bud.completed)
    let released := (u.setBud { u.bud with
      own := 0, granted := 0, raise := .none, settleTimer := none, restateTimer := none, parkTimer := none
      barrierTimer := none }).setLine
        (if handsZero then { u.line with claimSlot := some { mA := 0, count := 0, next := none } } else u.line)
    let told := if s.bud.granted = 0 then released else released.askNotice (.budget 0 u.available .doze)
    (s.dozeReady = true ↔ ready)
      ∧ (s.msg.dozePending = true → ready → exec (.doze m src []) s = .next (State.reviewed s (u.reply src 0x17 .accepted)))
      ∧ (¬ ready →
          exec (.doze m src []) s = .next (State.reviewed s (u.reply src 0x17 (.busy .notInState))))
      ∧ (s.msg.dozePending = false → ready →
          ∃ t : State, exec (.doze m src []) s = .next (State.reviewed s (t.reply src 0x17 .accepted))
            ∧ t = told.setMsg { s.msg with dozePending := true }
            ∧ t.bud.own = 0 ∧ t.bud.granted = 0 ∧ t.bud.completed = s.bud.completed
            ∧ t.line.claimSlot = (if handsZero then some { mA := 0, count := 0, next := none } else s.line.claimSlot)
            ∧ t.pool = s.pool ∧ t.eng = s.eng ∧ t.call = s.call ∧ t.asm = s.asm ∧ t.kbd = s.kbd ∧ t.router = s.router)) ∧
  ∀ s : State, s.msg.op = .run → s.msg.dozePending = true → s.line.claimSlot = none → s.line.replies = [] →
    (s.dozeReady = true → s.bud.own = 0 →
        ∃ t : State, exec .enterDoze s = .next t
          ∧ t.msg.op = .doze ∧ t.msg.dozePending = false ∧ t.msg.keysTimer = none ∧ t.msg.textTimer = none
          ∧ t.kbd.scanTimer = none ∧ t.kbd.repeatTimer = none ∧ t.kbd.candidate = none
          ∧ t.kbd.dozeTimer = some (s.now + 50000) ∧ t.kbd.fifo = s.kbd.fifo ∧ t.kbd.caps = s.kbd.caps
          ∧ t.kbd.keys = s.kbd.keys.map (fun p => { p with count := 0 })
          ∧ t.call = { s.call with cupTimer := none } ∧ t.mod.st = .silent ∧ t.beeper.sound = .none
          ∧ t.eng.previous = 0 ∧ t.eng.beforePrevious = 0 ∧ t.eng.watchTimer = none ∧ t.eng.motorPhase = s.eng.motorPhase
          ∧ t.bud = { s.bud with
              tickTimer := none, parkTimer := none, restateTimer := none, settleTimer := none, barrierTimer := none }
          ∧ t.asm = { s.asm with flushTimer := none } ∧ t.pool = s.pool ∧ t.router = s.router ∧ t.line = s.line)
      ∧ (s.dozeReady = false ∨ s.bud.own ≠ 0 → exec .enterDoze s = .next (s.setMsg { s.msg with dozePending := false }))

/-- RESTART and power-on reset (R190, R191, R192): every block takes the state that its chapter gives it, and then the sample
of R118 is taken and judged (R154, R155): its live conditions, if any is present, put the engine in HELD by HoldsApplied, as
hold entry 1 after both. RESTART keeps the setup record, the address, the rate, the cups with their filter (R97), and is
ignored with a body (R184). The state of each block after reset: R3, R18, R34, R43, R59, R63, R78, R80, R100, R122, R132, R161,
R189, R190. The PRESENT made ready after own address × 10 ms, and the end of the setup window. (The model's choice: the order
of the free stack in both, log entry 27; the first scan, cup reading, tick and watch sample one period later, log entry 9; the
tick's schedule kept by RESTART, log entry 34; the stop of the PRESENT delay by RESTART, log entry 20; the demodulator and its
sampler, log entry 53; the increment, the loop test's flag, the FREE images and the close order, log entry 41; the readings of
the pins and the wire taken as high, log entry 5; the time base and the waiting queue, log entry 38.) -/
def Obligations.StartUp : Prop :=
  (∀ (now : Nat) (own : Addr) (fast : Bool) (darkness : Nat) (routing : Routing) (tick : Timer),
    Pool.reset = { free := List.range 64, txq := [], prq := [], fwq := [], prqLost := false, fwqLost := false,
                   fwqInMessage := 0 }
      ∧ Router.reset routing = { routing := routing, localMode := false, flow := .clear, inFlight := none,
                                 remoteStopped := false }
      ∧ Beeper.reset = { sound := .none, started := 0, ends := none }
      ∧ Keyboard.reset now = {
          keys := List.replicate 72 { level := false, count := 0, st := .up }, caps := false, candidate := none
          repeatTimer := none, fifo := [], inMessage := 0, keyLost := false, scanTimer := some (now + 5000)
          dozeTimer := none }
      ∧ Modulator.reset = { st := .silent, phase := 0, increment := 0, baudAcc := 0, bitSamples := 0, frame := none,
                            breakTimer := none, test := none }
      ∧ Demodulator.reset = {
          output := true, lastCrossing := none, windowCount := 0, windowTimer := none, presentRun := 0, absentRun := 0
          sampler := { st := .waitMark, baudAcc := 0, due := 0, sample := 0, bit := 0, confirmed := false, trio := []
                       bits := [], noise := false, breakCount := 0 } }
      ∧ Call.reset = {
          seated := false, filter := 0, cupTimer := some 1000, st := .idle, params := none, muted := false
          breakInProgress := false, carrierWait := none, fade := none, unseat := none, silence := none, dropCause := none
          loopSeated := false }
      ∧ (let free : Image := { st := .free, wide := false, darkness := 0, cells := [], blanksAfter := 0, order := 0 }
         Assembler.reset darkness = {
           image1 := free, image2 := free, column := 0, crFlag := false, truncating := false, carried := []
           stagedDarkness := darkness, stagedWide := false, flushTimer := none, formPosition := 0, committed := 0
           nextOrder := 0 })
      ∧ Engine.reset now = {
          st := .idle, holds := {}, holdAsked := false, budgetAsked := false, cause := none, holdCount := 0, step := .none
          stoppedLine := none, rawWaiting := none, run := none, inProgress := none, previous := 0, beforePrevious := 0
          lastShift := none, motorPhase := 0, vc := 0, tc := 0, dotCurrent := 0, lastHeat := 0, lastBursts := 0
          watchTimer := some (now + 50000) }
      ∧ Budget.reset tick = {
          record := none, table := [], own := 0, completed := 0, granted := 0, raise := .none, settleTimer := none
          restateTimer := none, parkTimer := none, barrierTimer := none, tickTimer := tick }
      ∧ Line.reset own fast = {
          addr := own, fast := fast, chars := .hunting, message := .waiting, readTo := 0, wireLow := false, wireSince := 0
          claimSlot := none, replies := [], notices := [], keysSlot := none, textSlot := none, presentSlot := none
          attempt := none, retry := false, listenOnly := false }
      ∧ Routing.default = { duplex := .full, target := .line, copy := .print, echo := false }
      ∧ Setup.default own = {
          controller := if own = 1 then 2 else 1, dotOhms := 200, ceiling := 1200, motor := 250, darkness := 3
          formLength := 0, truncate := false, strip := false, flushSeconds := 4, repeatDelay := 500, repeatRate := 10
          click := true, flowEnable := true, stopCode := 0x13, goCode := 0x11, lowMark := 12, highMark := 24, loud := false
          carrierWait := 30, fadeLimit := 400, routes := List.replicate 9 .controller ++ [.all]
          routing := Routing.default }
      ∧ MessageUnit.reset own = {
          op := .start, dozePending := false, window := .waitingPresent, windowTimer := none
          presentTimer := some (own.toNat * 10000), setup := Setup.default own, keysTimer := none, keysDue := false
          textTimer := none, textDue := false }) ∧
  (∀ (s : State) (sense : Sense),
    let mv := sense.vc.toNat * 40
    let read := (s.setEng { s.eng with
      vc := sense.vc, tc := sense.tc
      dotCurrent := (min 9000 mv + s.msg.setup.dotOhms - 1) / s.msg.setup.dotOhms }).setPins { s.pins with
      paper := sense.paper, door := sense.door }
    let h : HoldSet := { s.eng.holds with
      headHot := if 100 < sense.tc.toNat then true else if sense.tc.toNat ≤ 95 then false else s.eng.holds.headHot
      lowVoltage := if mv < 5600 then true else if 5800 ≤ mv then false else s.eng.holds.lowVoltage
      batteryCritical := decide (s.bud.battery = .critical)
      doorOpen := !sense.door
      paperOut := !sense.paper }
    s.sampleNow sense = (if h.any then read.applyHolds h else read)) ∧
  (∀ (s : State) (m : Moment) (src : Addr) (broadcast : Bool), s.line.attempt = none → s.msg.op ≠ .doze → src ≠ s.line.addr →
    let u := s.heard m.t
    let blank : State := { u with
      pool := { free := (s.pool.fwq.reverse ++ s.pool.prq.reverse ++ s.pool.txq.reverse).map Block.id ++ s.pool.free
                txq := [], prq := [], fwq := [], prqLost := false, fwqLost := false, fwqInMessage := 0 }
      router := Router.reset s.msg.setup.routing
      beeper := Beeper.reset
      kbd := Keyboard.reset u.now
      mod := Modulator.reset
      demod := Demodulator.reset
      call := { s.call with
        st := if s.call.seated then .ready else .idle, params := none, muted := false, breakInProgress := false
        carrierWait := none, fade := none, unseat := none, silence := none, dropCause := none }
      asm := Assembler.reset s.msg.setup.darkness
      eng := Engine.reset u.now
      bud := Budget.reset s.bud.tickTimer
      line := { u.line with
        claimSlot := none, replies := [], notices := [], keysSlot := none, textSlot := none, presentSlot := some 0
        attempt := none, retry := false, listenOnly := false }
      msg := { s.msg with
        op := .run, dozePending := false, window := .closed, windowTimer := none, presentTimer := none
        keysTimer := none, keysDue := false, textTimer := none, textDue := false }
      pins := { u.pins with strobes := 0, motor := 0 } }
    (∀ body, body ≠ [] → exec (.restart m src broadcast body) s = .next (State.reviewed s u)) ∧
    ∃ t : State, exec (.restart m src broadcast []) s = .next (State.reviewed s t)
      ∧ t = blank.sampleNow m.sense
      ∧ t.msg.op = .run ∧ t.msg.window = .closed ∧ t.msg.setup = s.msg.setup ∧ t.msg.dozePending = false
      ∧ t.pool.txq = [] ∧ t.pool.prq = [] ∧ t.pool.fwq = [] ∧ t.pool.fwqInMessage = 0
      ∧ t.pool.prqLost = false ∧ t.pool.fwqLost = false
      ∧ t.router = { routing := s.msg.setup.routing, localMode := false, flow := .clear, inFlight := none,
                     remoteStopped := false }
      ∧ t.kbd.fifo = [] ∧ t.kbd.caps = false ∧ t.beeper.sound = .none ∧ t.mod.st = .silent
      ∧ t.call.st = (if s.call.seated = true then .ready else .idle) ∧ t.call.seated = s.call.seated
      ∧ t.call.params = none ∧ t.call.dropCause = none
      ∧ t.asm.image1.st = .free ∧ t.asm.image2.st = .free ∧ t.asm.stagedDarkness = s.msg.setup.darkness
      ∧ t.eng.previous = 0 ∧ t.eng.motorPhase = 0 ∧ t.eng.inProgress = none ∧ t.eng.vc = m.sense.vc ∧ t.eng.tc = m.sense.tc
      ∧ t.bud.own = 0 ∧ t.bud.granted = 0 ∧ t.bud.table = [] ∧ t.bud.record = none
      ∧ t.line.listenOnly = false ∧ t.line.retry = false ∧ t.line.presentSlot = some 0 ∧ t.line.replies = []
      ∧ t.line.addr = s.line.addr ∧ t.line.fast = s.line.fast) ∧
  (∀ (s : State) (straps : Addr) (rateHigh : Bool) (sense : Sense),
    let own : Addr := if straps = 0 then 1 else if straps = 15 then 14 else straps
    let blank : State := {
      pending := s.pending, now := 0, pool := Pool.reset, router := Router.reset Routing.default, beeper := Beeper.reset
      kbd := Keyboard.reset 0, mod := Modulator.reset, demod := Demodulator.reset, call := Call.reset
      asm := Assembler.reset 3, eng := Engine.reset 0, bud := Budget.reset (some 100000), line := Line.reset own rateHigh
      msg := MessageUnit.reset own
      pins := { straps := straps, rateHigh := rateHigh, keys := 0, paper := true, door := true, cupA := false, cupB := false
                mic := false, strobes := 0, motor := 0, head := 0 } }
    ∃ t : State, exec (.powerOnReset straps rateHigh sense) s = .next t
      ∧ t = blank.sampleNow sense
      ∧ t.line.addr = (if straps = 0 then 1 else if straps = 15 then 14 else straps) ∧ t.line.fast = rateHigh
      ∧ t.msg.op = .start ∧ t.msg.window = .waitingPresent ∧ t.msg.dozePending = false
      ∧ t.msg.presentTimer = some (t.line.addr.toNat * 10000) ∧ t.msg.setup.Law
      ∧ t.pool = Pool.reset ∧ t.call = Call.reset ∧ t.line.presentSlot = none ∧ t.now = 0 ∧ t.pending = s.pending
      ∧ t.eng.vc = sense.vc ∧ t.eng.tc = sense.tc) ∧
  (∀ (s : State) (d : Nat), s.msg.presentTimer = some d →
    let u := s.advanceTo d
    exec .presentDelayExpiry s
      = .next ((u.setMsg { u.msg with presentTimer := none }).setLine { u.line with presentSlot := some 0 })) ∧
  ∀ (s : State) (d : Nat), s.msg.windowTimer = some d →
    let u := s.advanceTo d
    exec .setupWindowExpiry s
      = .next (State.reviewed s (u.setMsg { u.msg with
          window := .closed, windowTimer := none, op := .run
          keysTimer := if s.kbd.inMessage < s.kbd.fifo.length ∧ s.line.listenOnly = false
            then some (u.now + 10000) else s.msg.keysTimer }))

/-- The machine right after reset meets every law that the other statements keep, in START with the setup window waiting for
the PRESENT and 64 blocks free (R190). The empty queue of waiting commands is the model's choice (log entry 12), and so are the
readings of the straps, the sensors and the cups on which the idle engine and the IDLE call rest (log entry 5). -/
def Obligations.ResetMeetsLaws : Prop :=
  State.reset.pool.Law ∧ State.reset.TxqLaw ∧ State.reset.FlowGround ∧ State.reset.FlowLaw ∧ State.reset.KeyLaw
    ∧ State.reset.QueueLaw ∧ State.reset.CallLaw ∧ State.reset.HeldLaw ∧ State.reset.ClaimLaw ∧ State.reset.TableLaw
    ∧ State.reset.msg.setup.Law
    ∧ State.reset.msg.op = .start ∧ State.reset.msg.window = .waitingPresent ∧ State.reset.pool.free.length = 64
    ∧ State.reset.call.st = .idle ∧ State.reset.eng.st = .idle ∧ State.reset.pending = []
end

