-- ==== Sys2Proof/Laws/State.lean ====
section
/-! SUPPORT. What each update of State leaves in each field: one lemma per field per update. -/

namespace Sys2Proof.Machine.State

variable (s : State)

@[simp] theorem setPending_pending (x : List Instr) : (s.setPending x).pending = x := rfl
@[simp] theorem setPending_now (x : List Instr) : (s.setPending x).now = s.now := rfl
@[simp] theorem setPending_pool (x : List Instr) : (s.setPending x).pool = s.pool := rfl
@[simp] theorem setPending_router (x : List Instr) : (s.setPending x).router = s.router := rfl
@[simp] theorem setPending_beeper (x : List Instr) : (s.setPending x).beeper = s.beeper := rfl
@[simp] theorem setPending_kbd (x : List Instr) : (s.setPending x).kbd = s.kbd := rfl
@[simp] theorem setPending_mod (x : List Instr) : (s.setPending x).mod = s.mod := rfl
@[simp] theorem setPending_demod (x : List Instr) : (s.setPending x).demod = s.demod := rfl
@[simp] theorem setPending_call (x : List Instr) : (s.setPending x).call = s.call := rfl
@[simp] theorem setPending_asm (x : List Instr) : (s.setPending x).asm = s.asm := rfl
@[simp] theorem setPending_eng (x : List Instr) : (s.setPending x).eng = s.eng := rfl
@[simp] theorem setPending_bud (x : List Instr) : (s.setPending x).bud = s.bud := rfl
@[simp] theorem setPending_line (x : List Instr) : (s.setPending x).line = s.line := rfl
@[simp] theorem setPending_msg (x : List Instr) : (s.setPending x).msg = s.msg := rfl
@[simp] theorem setPending_pins (x : List Instr) : (s.setPending x).pins = s.pins := rfl
@[simp] theorem setPending_self : s.setPending s.pending = s := rfl
@[simp] theorem setPending_setPending (x y : List Instr) : (s.setPending x).setPending y = s.setPending y := rfl

@[simp] theorem setNow_pending (x : Nat) : (s.setNow x).pending = s.pending := rfl
@[simp] theorem setNow_now (x : Nat) : (s.setNow x).now = x := rfl
@[simp] theorem setNow_pool (x : Nat) : (s.setNow x).pool = s.pool := rfl
@[simp] theorem setNow_router (x : Nat) : (s.setNow x).router = s.router := rfl
@[simp] theorem setNow_beeper (x : Nat) : (s.setNow x).beeper = s.beeper := rfl
@[simp] theorem setNow_kbd (x : Nat) : (s.setNow x).kbd = s.kbd := rfl
@[simp] theorem setNow_mod (x : Nat) : (s.setNow x).mod = s.mod := rfl
@[simp] theorem setNow_demod (x : Nat) : (s.setNow x).demod = s.demod := rfl
@[simp] theorem setNow_call (x : Nat) : (s.setNow x).call = s.call := rfl
@[simp] theorem setNow_asm (x : Nat) : (s.setNow x).asm = s.asm := rfl
@[simp] theorem setNow_eng (x : Nat) : (s.setNow x).eng = s.eng := rfl
@[simp] theorem setNow_bud (x : Nat) : (s.setNow x).bud = s.bud := rfl
@[simp] theorem setNow_line (x : Nat) : (s.setNow x).line = s.line := rfl
@[simp] theorem setNow_msg (x : Nat) : (s.setNow x).msg = s.msg := rfl
@[simp] theorem setNow_pins (x : Nat) : (s.setNow x).pins = s.pins := rfl
@[simp] theorem setNow_self : s.setNow s.now = s := rfl
@[simp] theorem setNow_setNow (x y : Nat) : (s.setNow x).setNow y = s.setNow y := rfl

@[simp] theorem setPool_pending (x : Pool) : (s.setPool x).pending = s.pending := rfl
@[simp] theorem setPool_now (x : Pool) : (s.setPool x).now = s.now := rfl
@[simp] theorem setPool_pool (x : Pool) : (s.setPool x).pool = x := rfl
@[simp] theorem setPool_router (x : Pool) : (s.setPool x).router = s.router := rfl
@[simp] theorem setPool_beeper (x : Pool) : (s.setPool x).beeper = s.beeper := rfl
@[simp] theorem setPool_kbd (x : Pool) : (s.setPool x).kbd = s.kbd := rfl
@[simp] theorem setPool_mod (x : Pool) : (s.setPool x).mod = s.mod := rfl
@[simp] theorem setPool_demod (x : Pool) : (s.setPool x).demod = s.demod := rfl
@[simp] theorem setPool_call (x : Pool) : (s.setPool x).call = s.call := rfl
@[simp] theorem setPool_asm (x : Pool) : (s.setPool x).asm = s.asm := rfl
@[simp] theorem setPool_eng (x : Pool) : (s.setPool x).eng = s.eng := rfl
@[simp] theorem setPool_bud (x : Pool) : (s.setPool x).bud = s.bud := rfl
@[simp] theorem setPool_line (x : Pool) : (s.setPool x).line = s.line := rfl
@[simp] theorem setPool_msg (x : Pool) : (s.setPool x).msg = s.msg := rfl
@[simp] theorem setPool_pins (x : Pool) : (s.setPool x).pins = s.pins := rfl
@[simp] theorem setPool_self : s.setPool s.pool = s := rfl
@[simp] theorem setPool_setPool (x y : Pool) : (s.setPool x).setPool y = s.setPool y := rfl

@[simp] theorem setRouter_pending (x : Router) : (s.setRouter x).pending = s.pending := rfl
@[simp] theorem setRouter_now (x : Router) : (s.setRouter x).now = s.now := rfl
@[simp] theorem setRouter_pool (x : Router) : (s.setRouter x).pool = s.pool := rfl
@[simp] theorem setRouter_router (x : Router) : (s.setRouter x).router = x := rfl
@[simp] theorem setRouter_beeper (x : Router) : (s.setRouter x).beeper = s.beeper := rfl
@[simp] theorem setRouter_kbd (x : Router) : (s.setRouter x).kbd = s.kbd := rfl
@[simp] theorem setRouter_mod (x : Router) : (s.setRouter x).mod = s.mod := rfl
@[simp] theorem setRouter_demod (x : Router) : (s.setRouter x).demod = s.demod := rfl
@[simp] theorem setRouter_call (x : Router) : (s.setRouter x).call = s.call := rfl
@[simp] theorem setRouter_asm (x : Router) : (s.setRouter x).asm = s.asm := rfl
@[simp] theorem setRouter_eng (x : Router) : (s.setRouter x).eng = s.eng := rfl
@[simp] theorem setRouter_bud (x : Router) : (s.setRouter x).bud = s.bud := rfl
@[simp] theorem setRouter_line (x : Router) : (s.setRouter x).line = s.line := rfl
@[simp] theorem setRouter_msg (x : Router) : (s.setRouter x).msg = s.msg := rfl
@[simp] theorem setRouter_pins (x : Router) : (s.setRouter x).pins = s.pins := rfl
@[simp] theorem setRouter_self : s.setRouter s.router = s := rfl
@[simp] theorem setRouter_setRouter (x y : Router) : (s.setRouter x).setRouter y = s.setRouter y := rfl

@[simp] theorem setBeeper_pending (x : Beeper) : (s.setBeeper x).pending = s.pending := rfl
@[simp] theorem setBeeper_now (x : Beeper) : (s.setBeeper x).now = s.now := rfl
@[simp] theorem setBeeper_pool (x : Beeper) : (s.setBeeper x).pool = s.pool := rfl
@[simp] theorem setBeeper_router (x : Beeper) : (s.setBeeper x).router = s.router := rfl
@[simp] theorem setBeeper_beeper (x : Beeper) : (s.setBeeper x).beeper = x := rfl
@[simp] theorem setBeeper_kbd (x : Beeper) : (s.setBeeper x).kbd = s.kbd := rfl
@[simp] theorem setBeeper_mod (x : Beeper) : (s.setBeeper x).mod = s.mod := rfl
@[simp] theorem setBeeper_demod (x : Beeper) : (s.setBeeper x).demod = s.demod := rfl
@[simp] theorem setBeeper_call (x : Beeper) : (s.setBeeper x).call = s.call := rfl
@[simp] theorem setBeeper_asm (x : Beeper) : (s.setBeeper x).asm = s.asm := rfl
@[simp] theorem setBeeper_eng (x : Beeper) : (s.setBeeper x).eng = s.eng := rfl
@[simp] theorem setBeeper_bud (x : Beeper) : (s.setBeeper x).bud = s.bud := rfl
@[simp] theorem setBeeper_line (x : Beeper) : (s.setBeeper x).line = s.line := rfl
@[simp] theorem setBeeper_msg (x : Beeper) : (s.setBeeper x).msg = s.msg := rfl
@[simp] theorem setBeeper_pins (x : Beeper) : (s.setBeeper x).pins = s.pins := rfl
@[simp] theorem setBeeper_self : s.setBeeper s.beeper = s := rfl
@[simp] theorem setBeeper_setBeeper (x y : Beeper) : (s.setBeeper x).setBeeper y = s.setBeeper y := rfl

@[simp] theorem setKbd_pending (x : Keyboard) : (s.setKbd x).pending = s.pending := rfl
@[simp] theorem setKbd_now (x : Keyboard) : (s.setKbd x).now = s.now := rfl
@[simp] theorem setKbd_pool (x : Keyboard) : (s.setKbd x).pool = s.pool := rfl
@[simp] theorem setKbd_router (x : Keyboard) : (s.setKbd x).router = s.router := rfl
@[simp] theorem setKbd_beeper (x : Keyboard) : (s.setKbd x).beeper = s.beeper := rfl
@[simp] theorem setKbd_kbd (x : Keyboard) : (s.setKbd x).kbd = x := rfl
@[simp] theorem setKbd_mod (x : Keyboard) : (s.setKbd x).mod = s.mod := rfl
@[simp] theorem setKbd_demod (x : Keyboard) : (s.setKbd x).demod = s.demod := rfl
@[simp] theorem setKbd_call (x : Keyboard) : (s.setKbd x).call = s.call := rfl
@[simp] theorem setKbd_asm (x : Keyboard) : (s.setKbd x).asm = s.asm := rfl
@[simp] theorem setKbd_eng (x : Keyboard) : (s.setKbd x).eng = s.eng := rfl
@[simp] theorem setKbd_bud (x : Keyboard) : (s.setKbd x).bud = s.bud := rfl
@[simp] theorem setKbd_line (x : Keyboard) : (s.setKbd x).line = s.line := rfl
@[simp] theorem setKbd_msg (x : Keyboard) : (s.setKbd x).msg = s.msg := rfl
@[simp] theorem setKbd_pins (x : Keyboard) : (s.setKbd x).pins = s.pins := rfl
@[simp] theorem setKbd_self : s.setKbd s.kbd = s := rfl
@[simp] theorem setKbd_setKbd (x y : Keyboard) : (s.setKbd x).setKbd y = s.setKbd y := rfl

@[simp] theorem setMod_pending (x : Modulator) : (s.setMod x).pending = s.pending := rfl
@[simp] theorem setMod_now (x : Modulator) : (s.setMod x).now = s.now := rfl
@[simp] theorem setMod_pool (x : Modulator) : (s.setMod x).pool = s.pool := rfl
@[simp] theorem setMod_router (x : Modulator) : (s.setMod x).router = s.router := rfl
@[simp] theorem setMod_beeper (x : Modulator) : (s.setMod x).beeper = s.beeper := rfl
@[simp] theorem setMod_kbd (x : Modulator) : (s.setMod x).kbd = s.kbd := rfl
@[simp] theorem setMod_mod (x : Modulator) : (s.setMod x).mod = x := rfl
@[simp] theorem setMod_demod (x : Modulator) : (s.setMod x).demod = s.demod := rfl
@[simp] theorem setMod_call (x : Modulator) : (s.setMod x).call = s.call := rfl
@[simp] theorem setMod_asm (x : Modulator) : (s.setMod x).asm = s.asm := rfl
@[simp] theorem setMod_eng (x : Modulator) : (s.setMod x).eng = s.eng := rfl
@[simp] theorem setMod_bud (x : Modulator) : (s.setMod x).bud = s.bud := rfl
@[simp] theorem setMod_line (x : Modulator) : (s.setMod x).line = s.line := rfl
@[simp] theorem setMod_msg (x : Modulator) : (s.setMod x).msg = s.msg := rfl
@[simp] theorem setMod_pins (x : Modulator) : (s.setMod x).pins = s.pins := rfl
@[simp] theorem setMod_self : s.setMod s.mod = s := rfl
@[simp] theorem setMod_setMod (x y : Modulator) : (s.setMod x).setMod y = s.setMod y := rfl

@[simp] theorem setDemod_pending (x : Demodulator) : (s.setDemod x).pending = s.pending := rfl
@[simp] theorem setDemod_now (x : Demodulator) : (s.setDemod x).now = s.now := rfl
@[simp] theorem setDemod_pool (x : Demodulator) : (s.setDemod x).pool = s.pool := rfl
@[simp] theorem setDemod_router (x : Demodulator) : (s.setDemod x).router = s.router := rfl
@[simp] theorem setDemod_beeper (x : Demodulator) : (s.setDemod x).beeper = s.beeper := rfl
@[simp] theorem setDemod_kbd (x : Demodulator) : (s.setDemod x).kbd = s.kbd := rfl
@[simp] theorem setDemod_mod (x : Demodulator) : (s.setDemod x).mod = s.mod := rfl
@[simp] theorem setDemod_demod (x : Demodulator) : (s.setDemod x).demod = x := rfl
@[simp] theorem setDemod_call (x : Demodulator) : (s.setDemod x).call = s.call := rfl
@[simp] theorem setDemod_asm (x : Demodulator) : (s.setDemod x).asm = s.asm := rfl
@[simp] theorem setDemod_eng (x : Demodulator) : (s.setDemod x).eng = s.eng := rfl
@[simp] theorem setDemod_bud (x : Demodulator) : (s.setDemod x).bud = s.bud := rfl
@[simp] theorem setDemod_line (x : Demodulator) : (s.setDemod x).line = s.line := rfl
@[simp] theorem setDemod_msg (x : Demodulator) : (s.setDemod x).msg = s.msg := rfl
@[simp] theorem setDemod_pins (x : Demodulator) : (s.setDemod x).pins = s.pins := rfl
@[simp] theorem setDemod_self : s.setDemod s.demod = s := rfl
@[simp] theorem setDemod_setDemod (x y : Demodulator) : (s.setDemod x).setDemod y = s.setDemod y := rfl

@[simp] theorem setCall_pending (x : Call) : (s.setCall x).pending = s.pending := rfl
@[simp] theorem setCall_now (x : Call) : (s.setCall x).now = s.now := rfl
@[simp] theorem setCall_pool (x : Call) : (s.setCall x).pool = s.pool := rfl
@[simp] theorem setCall_router (x : Call) : (s.setCall x).router = s.router := rfl
@[simp] theorem setCall_beeper (x : Call) : (s.setCall x).beeper = s.beeper := rfl
@[simp] theorem setCall_kbd (x : Call) : (s.setCall x).kbd = s.kbd := rfl
@[simp] theorem setCall_mod (x : Call) : (s.setCall x).mod = s.mod := rfl
@[simp] theorem setCall_demod (x : Call) : (s.setCall x).demod = s.demod := rfl
@[simp] theorem setCall_call (x : Call) : (s.setCall x).call = x := rfl
@[simp] theorem setCall_asm (x : Call) : (s.setCall x).asm = s.asm := rfl
@[simp] theorem setCall_eng (x : Call) : (s.setCall x).eng = s.eng := rfl
@[simp] theorem setCall_bud (x : Call) : (s.setCall x).bud = s.bud := rfl
@[simp] theorem setCall_line (x : Call) : (s.setCall x).line = s.line := rfl
@[simp] theorem setCall_msg (x : Call) : (s.setCall x).msg = s.msg := rfl
@[simp] theorem setCall_pins (x : Call) : (s.setCall x).pins = s.pins := rfl
@[simp] theorem setCall_self : s.setCall s.call = s := rfl
@[simp] theorem setCall_setCall (x y : Call) : (s.setCall x).setCall y = s.setCall y := rfl

@[simp] theorem setAsm_pending (x : Assembler) : (s.setAsm x).pending = s.pending := rfl
@[simp] theorem setAsm_now (x : Assembler) : (s.setAsm x).now = s.now := rfl
@[simp] theorem setAsm_pool (x : Assembler) : (s.setAsm x).pool = s.pool := rfl
@[simp] theorem setAsm_router (x : Assembler) : (s.setAsm x).router = s.router := rfl
@[simp] theorem setAsm_beeper (x : Assembler) : (s.setAsm x).beeper = s.beeper := rfl
@[simp] theorem setAsm_kbd (x : Assembler) : (s.setAsm x).kbd = s.kbd := rfl
@[simp] theorem setAsm_mod (x : Assembler) : (s.setAsm x).mod = s.mod := rfl
@[simp] theorem setAsm_demod (x : Assembler) : (s.setAsm x).demod = s.demod := rfl
@[simp] theorem setAsm_call (x : Assembler) : (s.setAsm x).call = s.call := rfl
@[simp] theorem setAsm_asm (x : Assembler) : (s.setAsm x).asm = x := rfl
@[simp] theorem setAsm_eng (x : Assembler) : (s.setAsm x).eng = s.eng := rfl
@[simp] theorem setAsm_bud (x : Assembler) : (s.setAsm x).bud = s.bud := rfl
@[simp] theorem setAsm_line (x : Assembler) : (s.setAsm x).line = s.line := rfl
@[simp] theorem setAsm_msg (x : Assembler) : (s.setAsm x).msg = s.msg := rfl
@[simp] theorem setAsm_pins (x : Assembler) : (s.setAsm x).pins = s.pins := rfl
@[simp] theorem setAsm_self : s.setAsm s.asm = s := rfl
@[simp] theorem setAsm_setAsm (x y : Assembler) : (s.setAsm x).setAsm y = s.setAsm y := rfl

@[simp] theorem setEng_pending (x : Engine) : (s.setEng x).pending = s.pending := rfl
@[simp] theorem setEng_now (x : Engine) : (s.setEng x).now = s.now := rfl
@[simp] theorem setEng_pool (x : Engine) : (s.setEng x).pool = s.pool := rfl
@[simp] theorem setEng_router (x : Engine) : (s.setEng x).router = s.router := rfl
@[simp] theorem setEng_beeper (x : Engine) : (s.setEng x).beeper = s.beeper := rfl
@[simp] theorem setEng_kbd (x : Engine) : (s.setEng x).kbd = s.kbd := rfl
@[simp] theorem setEng_mod (x : Engine) : (s.setEng x).mod = s.mod := rfl
@[simp] theorem setEng_demod (x : Engine) : (s.setEng x).demod = s.demod := rfl
@[simp] theorem setEng_call (x : Engine) : (s.setEng x).call = s.call := rfl
@[simp] theorem setEng_asm (x : Engine) : (s.setEng x).asm = s.asm := rfl
@[simp] theorem setEng_eng (x : Engine) : (s.setEng x).eng = x := rfl
@[simp] theorem setEng_bud (x : Engine) : (s.setEng x).bud = s.bud := rfl
@[simp] theorem setEng_line (x : Engine) : (s.setEng x).line = s.line := rfl
@[simp] theorem setEng_msg (x : Engine) : (s.setEng x).msg = s.msg := rfl
@[simp] theorem setEng_pins (x : Engine) : (s.setEng x).pins = s.pins := rfl
@[simp] theorem setEng_self : s.setEng s.eng = s := rfl
@[simp] theorem setEng_setEng (x y : Engine) : (s.setEng x).setEng y = s.setEng y := rfl

@[simp] theorem setBud_pending (x : Budget) : (s.setBud x).pending = s.pending := rfl
@[simp] theorem setBud_now (x : Budget) : (s.setBud x).now = s.now := rfl
@[simp] theorem setBud_pool (x : Budget) : (s.setBud x).pool = s.pool := rfl
@[simp] theorem setBud_router (x : Budget) : (s.setBud x).router = s.router := rfl
@[simp] theorem setBud_beeper (x : Budget) : (s.setBud x).beeper = s.beeper := rfl
@[simp] theorem setBud_kbd (x : Budget) : (s.setBud x).kbd = s.kbd := rfl
@[simp] theorem setBud_mod (x : Budget) : (s.setBud x).mod = s.mod := rfl
@[simp] theorem setBud_demod (x : Budget) : (s.setBud x).demod = s.demod := rfl
@[simp] theorem setBud_call (x : Budget) : (s.setBud x).call = s.call := rfl
@[simp] theorem setBud_asm (x : Budget) : (s.setBud x).asm = s.asm := rfl
@[simp] theorem setBud_eng (x : Budget) : (s.setBud x).eng = s.eng := rfl
@[simp] theorem setBud_bud (x : Budget) : (s.setBud x).bud = x := rfl
@[simp] theorem setBud_line (x : Budget) : (s.setBud x).line = s.line := rfl
@[simp] theorem setBud_msg (x : Budget) : (s.setBud x).msg = s.msg := rfl
@[simp] theorem setBud_pins (x : Budget) : (s.setBud x).pins = s.pins := rfl
@[simp] theorem setBud_self : s.setBud s.bud = s := rfl
@[simp] theorem setBud_setBud (x y : Budget) : (s.setBud x).setBud y = s.setBud y := rfl

@[simp] theorem setLine_pending (x : Line) : (s.setLine x).pending = s.pending := rfl
@[simp] theorem setLine_now (x : Line) : (s.setLine x).now = s.now := rfl
@[simp] theorem setLine_pool (x : Line) : (s.setLine x).pool = s.pool := rfl
@[simp] theorem setLine_router (x : Line) : (s.setLine x).router = s.router := rfl
@[simp] theorem setLine_beeper (x : Line) : (s.setLine x).beeper = s.beeper := rfl
@[simp] theorem setLine_kbd (x : Line) : (s.setLine x).kbd = s.kbd := rfl
@[simp] theorem setLine_mod (x : Line) : (s.setLine x).mod = s.mod := rfl
@[simp] theorem setLine_demod (x : Line) : (s.setLine x).demod = s.demod := rfl
@[simp] theorem setLine_call (x : Line) : (s.setLine x).call = s.call := rfl
@[simp] theorem setLine_asm (x : Line) : (s.setLine x).asm = s.asm := rfl
@[simp] theorem setLine_eng (x : Line) : (s.setLine x).eng = s.eng := rfl
@[simp] theorem setLine_bud (x : Line) : (s.setLine x).bud = s.bud := rfl
@[simp] theorem setLine_line (x : Line) : (s.setLine x).line = x := rfl
@[simp] theorem setLine_msg (x : Line) : (s.setLine x).msg = s.msg := rfl
@[simp] theorem setLine_pins (x : Line) : (s.setLine x).pins = s.pins := rfl
@[simp] theorem setLine_self : s.setLine s.line = s := rfl
@[simp] theorem setLine_setLine (x y : Line) : (s.setLine x).setLine y = s.setLine y := rfl

@[simp] theorem setMsg_pending (x : MessageUnit) : (s.setMsg x).pending = s.pending := rfl
@[simp] theorem setMsg_now (x : MessageUnit) : (s.setMsg x).now = s.now := rfl
@[simp] theorem setMsg_pool (x : MessageUnit) : (s.setMsg x).pool = s.pool := rfl
@[simp] theorem setMsg_router (x : MessageUnit) : (s.setMsg x).router = s.router := rfl
@[simp] theorem setMsg_beeper (x : MessageUnit) : (s.setMsg x).beeper = s.beeper := rfl
@[simp] theorem setMsg_kbd (x : MessageUnit) : (s.setMsg x).kbd = s.kbd := rfl
@[simp] theorem setMsg_mod (x : MessageUnit) : (s.setMsg x).mod = s.mod := rfl
@[simp] theorem setMsg_demod (x : MessageUnit) : (s.setMsg x).demod = s.demod := rfl
@[simp] theorem setMsg_call (x : MessageUnit) : (s.setMsg x).call = s.call := rfl
@[simp] theorem setMsg_asm (x : MessageUnit) : (s.setMsg x).asm = s.asm := rfl
@[simp] theorem setMsg_eng (x : MessageUnit) : (s.setMsg x).eng = s.eng := rfl
@[simp] theorem setMsg_bud (x : MessageUnit) : (s.setMsg x).bud = s.bud := rfl
@[simp] theorem setMsg_line (x : MessageUnit) : (s.setMsg x).line = s.line := rfl
@[simp] theorem setMsg_msg (x : MessageUnit) : (s.setMsg x).msg = x := rfl
@[simp] theorem setMsg_pins (x : MessageUnit) : (s.setMsg x).pins = s.pins := rfl
@[simp] theorem setMsg_self : s.setMsg s.msg = s := rfl
@[simp] theorem setMsg_setMsg (x y : MessageUnit) : (s.setMsg x).setMsg y = s.setMsg y := rfl

@[simp] theorem setPins_pending (x : Pins) : (s.setPins x).pending = s.pending := rfl
@[simp] theorem setPins_now (x : Pins) : (s.setPins x).now = s.now := rfl
@[simp] theorem setPins_pool (x : Pins) : (s.setPins x).pool = s.pool := rfl
@[simp] theorem setPins_router (x : Pins) : (s.setPins x).router = s.router := rfl
@[simp] theorem setPins_beeper (x : Pins) : (s.setPins x).beeper = s.beeper := rfl
@[simp] theorem setPins_kbd (x : Pins) : (s.setPins x).kbd = s.kbd := rfl
@[simp] theorem setPins_mod (x : Pins) : (s.setPins x).mod = s.mod := rfl
@[simp] theorem setPins_demod (x : Pins) : (s.setPins x).demod = s.demod := rfl
@[simp] theorem setPins_call (x : Pins) : (s.setPins x).call = s.call := rfl
@[simp] theorem setPins_asm (x : Pins) : (s.setPins x).asm = s.asm := rfl
@[simp] theorem setPins_eng (x : Pins) : (s.setPins x).eng = s.eng := rfl
@[simp] theorem setPins_bud (x : Pins) : (s.setPins x).bud = s.bud := rfl
@[simp] theorem setPins_line (x : Pins) : (s.setPins x).line = s.line := rfl
@[simp] theorem setPins_msg (x : Pins) : (s.setPins x).msg = s.msg := rfl
@[simp] theorem setPins_pins (x : Pins) : (s.setPins x).pins = x := rfl
@[simp] theorem setPins_self : s.setPins s.pins = s := rfl
@[simp] theorem setPins_setPins (x y : Pins) : (s.setPins x).setPins y = s.setPins y := rfl

end Sys2Proof.Machine.State
end

