-- ==== Sys2Proof/Laws/Frames.lean ====
section
/-! SUPPORT. What each shared operation leaves unchanged: one lemma per operation, whose conjuncts name every field of State that
it never touches. -/

namespace Sys2Proof.Machine

/-! ## Time, notices and sounds -/

@[simp] theorem State.advanceTo_frame (s : State) (t : Nat) :
    (s.advanceTo t).pending = s.pending ∧ (s.advanceTo t).pool = s.pool ∧ (s.advanceTo t).router = s.router ∧
    (s.advanceTo t).beeper = s.beeper ∧ (s.advanceTo t).kbd = s.kbd ∧ (s.advanceTo t).call = s.call ∧
    (s.advanceTo t).asm = s.asm ∧ (s.advanceTo t).eng = s.eng ∧ (s.advanceTo t).bud = s.bud ∧
    (s.advanceTo t).line = s.line ∧ (s.advanceTo t).msg = s.msg ∧ (s.advanceTo t).pins = s.pins := by
  unfold State.advanceTo
  (repeat' split) <;> simp

@[simp] theorem State.askNotice_frame (s : State) (n : Notice) :
    (s.askNotice n).pending = s.pending ∧ (s.askNotice n).now = s.now ∧ (s.askNotice n).pool = s.pool ∧
    (s.askNotice n).router = s.router ∧ (s.askNotice n).beeper = s.beeper ∧ (s.askNotice n).kbd = s.kbd ∧
    (s.askNotice n).mod = s.mod ∧ (s.askNotice n).demod = s.demod ∧ (s.askNotice n).call = s.call ∧
    (s.askNotice n).asm = s.asm ∧ (s.askNotice n).eng = s.eng ∧ (s.askNotice n).bud = s.bud ∧ (s.askNotice n).msg = s.msg ∧
    (s.askNotice n).pins = s.pins := by
  unfold State.askNotice
  (repeat' split) <;> simp

@[simp] theorem State.askSound_frame (s : State) (x : Sound) :
    (s.askSound x).pending = s.pending ∧ (s.askSound x).now = s.now ∧ (s.askSound x).pool = s.pool ∧
    (s.askSound x).router = s.router ∧ (s.askSound x).kbd = s.kbd ∧ (s.askSound x).mod = s.mod ∧
    (s.askSound x).demod = s.demod ∧ (s.askSound x).call = s.call ∧ (s.askSound x).asm = s.asm ∧
    (s.askSound x).eng = s.eng ∧ (s.askSound x).bud = s.bud ∧ (s.askSound x).line = s.line ∧ (s.askSound x).msg = s.msg ∧
    (s.askSound x).pins = s.pins := by
  unfold State.askSound
  (repeat' split) <;> simp

/-! ## The pool as the Router sees it -/

@[simp] theorem State.evaluateFlow_frame (s : State) :
    s.evaluateFlow.pending = s.pending ∧ s.evaluateFlow.now = s.now ∧ s.evaluateFlow.pool = s.pool ∧
    s.evaluateFlow.beeper = s.beeper ∧ s.evaluateFlow.kbd = s.kbd ∧ s.evaluateFlow.mod = s.mod ∧
    s.evaluateFlow.demod = s.demod ∧ s.evaluateFlow.call = s.call ∧ s.evaluateFlow.asm = s.asm ∧
    s.evaluateFlow.eng = s.eng ∧ s.evaluateFlow.bud = s.bud ∧ s.evaluateFlow.line = s.line ∧ s.evaluateFlow.msg = s.msg ∧
    s.evaluateFlow.pins = s.pins := by
  unfold State.evaluateFlow
  (repeat' split) <;> simp

@[simp] theorem State.changePool_frame (s : State) (p : Pool) :
    (s.changePool p).pending = s.pending ∧ (s.changePool p).now = s.now ∧ (s.changePool p).beeper = s.beeper ∧
    (s.changePool p).kbd = s.kbd ∧ (s.changePool p).mod = s.mod ∧ (s.changePool p).demod = s.demod ∧
    (s.changePool p).call = s.call ∧ (s.changePool p).asm = s.asm ∧ (s.changePool p).eng = s.eng ∧
    (s.changePool p).bud = s.bud ∧ (s.changePool p).line = s.line ∧ (s.changePool p).msg = s.msg ∧
    (s.changePool p).pins = s.pins := by
  unfold State.changePool
  (repeat' split) <;> simp

theorem State.storeCell_frame (s : State) (c : Chain) (cell : Cell) (s' : State) (h : s.storeCell c cell = some s') :
    s'.pending = s.pending ∧ s'.now = s.now ∧ s'.beeper = s.beeper ∧ s'.kbd = s.kbd ∧ s'.mod = s.mod ∧ s'.demod = s.demod ∧
    s'.call = s.call ∧ s'.asm = s.asm ∧ s'.eng = s.eng ∧ s'.bud = s.bud ∧ s'.line = s.line ∧ s'.msg = s.msg ∧
    s'.pins = s.pins := by
  simp only [State.storeCell, Option.map_eq_some_iff] at h
  obtain ⟨p, -, rfl⟩ := h
  simp

theorem State.takeCell_frame (s : State) (c : Chain) (cell : Cell) (s' : State) (h : s.takeCell c = some (cell, s')) :
    s'.pending = s.pending ∧ s'.now = s.now ∧ s'.beeper = s.beeper ∧ s'.kbd = s.kbd ∧ s'.mod = s.mod ∧ s'.demod = s.demod ∧
    s'.call = s.call ∧ s'.asm = s.asm ∧ s'.eng = s.eng ∧ s'.bud = s.bud ∧ s'.line = s.line ∧ s'.msg = s.msg ∧
    s'.pins = s.pins := by
  simp only [State.takeCell, Option.map_eq_some_iff] at h
  obtain ⟨r, -, e⟩ := h
  cases e
  simp

theorem State.storeBody_frame (s : State) (c : Chain) (body : List Byte) (s' : State) (h : s.storeBody c body = some s') :
    s'.pending = s.pending ∧ s'.now = s.now ∧ s'.beeper = s.beeper ∧ s'.kbd = s.kbd ∧ s'.mod = s.mod ∧ s'.demod = s.demod ∧
    s'.call = s.call ∧ s'.asm = s.asm ∧ s'.eng = s.eng ∧ s'.bud = s.bud ∧ s'.line = s.line ∧ s'.msg = s.msg ∧
    s'.pins = s.pins := by
  simp only [State.storeBody, Option.map_eq_some_iff] at h
  obtain ⟨p, -, rfl⟩ := h
  simp

@[simp] theorem State.discardChain_frame (s : State) (c : Chain) :
    (s.discardChain c).pending = s.pending ∧ (s.discardChain c).now = s.now ∧ (s.discardChain c).beeper = s.beeper ∧
    (s.discardChain c).kbd = s.kbd ∧ (s.discardChain c).mod = s.mod ∧ (s.discardChain c).demod = s.demod ∧
    (s.discardChain c).call = s.call ∧ (s.discardChain c).asm = s.asm ∧ (s.discardChain c).eng = s.eng ∧
    (s.discardChain c).bud = s.bud ∧ (s.discardChain c).line = s.line ∧ (s.discardChain c).msg = s.msg ∧
    (s.discardChain c).pins = s.pins := by
  simp [State.discardChain]

@[simp] theorem State.markLost_frame (s : State) (c : Chain) :
    (s.markLost c).pending = s.pending ∧ (s.markLost c).now = s.now ∧ (s.markLost c).router = s.router ∧
    (s.markLost c).beeper = s.beeper ∧ (s.markLost c).kbd = s.kbd ∧ (s.markLost c).mod = s.mod ∧
    (s.markLost c).demod = s.demod ∧ (s.markLost c).call = s.call ∧ (s.markLost c).asm = s.asm ∧
    (s.markLost c).eng = s.eng ∧ (s.markLost c).bud = s.bud ∧ (s.markLost c).line = s.line ∧ (s.markLost c).msg = s.msg ∧
    (s.markLost c).pins = s.pins := by
  simp [State.markLost]

@[simp] theorem State.takeText_frame (s : State) (n : Nat) :
    (s.takeText n).pending = s.pending ∧ (s.takeText n).now = s.now ∧ (s.takeText n).beeper = s.beeper ∧
    (s.takeText n).kbd = s.kbd ∧ (s.takeText n).mod = s.mod ∧ (s.takeText n).demod = s.demod ∧
    (s.takeText n).call = s.call ∧ (s.takeText n).asm = s.asm ∧ (s.takeText n).eng = s.eng ∧ (s.takeText n).bud = s.bud ∧
    (s.takeText n).line = s.line ∧ (s.takeText n).msg = s.msg ∧ (s.takeText n).pins = s.pins := by
  induction n generalizing s with
  | zero => simp [State.takeText]
  | succ n ih =>
    unfold State.takeText
    split
    · simp [ih, State.takeCell_frame _ _ _ _ ‹_›]
    · simp

@[simp] theorem State.flowComplete_frame (s : State) (c : FlowCode) :
    (s.flowComplete c).pending = s.pending ∧ (s.flowComplete c).now = s.now ∧ (s.flowComplete c).pool = s.pool ∧
    (s.flowComplete c).beeper = s.beeper ∧ (s.flowComplete c).kbd = s.kbd ∧ (s.flowComplete c).mod = s.mod ∧
    (s.flowComplete c).demod = s.demod ∧ (s.flowComplete c).call = s.call ∧ (s.flowComplete c).asm = s.asm ∧
    (s.flowComplete c).eng = s.eng ∧ (s.flowComplete c).bud = s.bud ∧ (s.flowComplete c).msg = s.msg ∧
    (s.flowComplete c).pins = s.pins := by
  simp [State.flowComplete]

/-! ## The Line Assembler -/

@[simp] theorem State.openImage_frame (s : State) :
    s.openImage.pending = s.pending ∧ s.openImage.now = s.now ∧ s.openImage.pool = s.pool ∧ s.openImage.router = s.router ∧
    s.openImage.beeper = s.beeper ∧ s.openImage.kbd = s.kbd ∧ s.openImage.mod = s.mod ∧ s.openImage.demod = s.demod ∧
    s.openImage.call = s.call ∧ s.openImage.eng = s.eng ∧ s.openImage.bud = s.bud ∧ s.openImage.line = s.line ∧
    s.openImage.msg = s.msg ∧ s.openImage.pins = s.pins := by
  unfold State.openImage
  (repeat' split) <;> simp

@[simp] theorem State.textLineDone_frame (s : State) :
    s.textLineDone.pending = s.pending ∧ s.textLineDone.now = s.now ∧ s.textLineDone.pool = s.pool ∧
    s.textLineDone.router = s.router ∧ s.textLineDone.beeper = s.beeper ∧ s.textLineDone.kbd = s.kbd ∧
    s.textLineDone.mod = s.mod ∧ s.textLineDone.demod = s.demod ∧ s.textLineDone.call = s.call ∧
    s.textLineDone.eng = s.eng ∧ s.textLineDone.bud = s.bud ∧ s.textLineDone.line = s.line ∧ s.textLineDone.msg = s.msg ∧
    s.textLineDone.pins = s.pins := by
  simp [State.textLineDone]

@[simp] theorem State.freeImage_frame (s : State) (id : ImageId) :
    (s.freeImage id).pending = s.pending ∧ (s.freeImage id).now = s.now ∧ (s.freeImage id).pool = s.pool ∧
    (s.freeImage id).router = s.router ∧ (s.freeImage id).beeper = s.beeper ∧ (s.freeImage id).kbd = s.kbd ∧
    (s.freeImage id).mod = s.mod ∧ (s.freeImage id).demod = s.demod ∧ (s.freeImage id).call = s.call ∧
    (s.freeImage id).eng = s.eng ∧ (s.freeImage id).bud = s.bud ∧ (s.freeImage id).line = s.line ∧
    (s.freeImage id).msg = s.msg ∧ (s.freeImage id).pins = s.pins := by
  simp [State.freeImage]

/-! ## The modulator and the demodulator -/

@[simp] theorem State.toCarrier_frame (s : State) :
    s.toCarrier.pending = s.pending ∧ s.toCarrier.now = s.now ∧ s.toCarrier.pool = s.pool ∧ s.toCarrier.router = s.router ∧
    s.toCarrier.beeper = s.beeper ∧ s.toCarrier.kbd = s.kbd ∧ s.toCarrier.demod = s.demod ∧ s.toCarrier.call = s.call ∧
    s.toCarrier.asm = s.asm ∧ s.toCarrier.eng = s.eng ∧ s.toCarrier.bud = s.bud ∧ s.toCarrier.line = s.line ∧
    s.toCarrier.msg = s.msg ∧ s.toCarrier.pins = s.pins := by
  simp [State.toCarrier]

@[simp] theorem State.beginFrame_frame (s : State) (f : Format) (code : Byte) (k : FrameKind) (b : Bool) :
    (s.beginFrame f code k b).pending = s.pending ∧ (s.beginFrame f code k b).now = s.now ∧
    (s.beginFrame f code k b).pool = s.pool ∧ (s.beginFrame f code k b).router = s.router ∧
    (s.beginFrame f code k b).beeper = s.beeper ∧ (s.beginFrame f code k b).kbd = s.kbd ∧
    (s.beginFrame f code k b).demod = s.demod ∧ (s.beginFrame f code k b).call = s.call ∧
    (s.beginFrame f code k b).asm = s.asm ∧ (s.beginFrame f code k b).eng = s.eng ∧ (s.beginFrame f code k b).bud = s.bud ∧
    (s.beginFrame f code k b).line = s.line ∧ (s.beginFrame f code k b).msg = s.msg ∧
    (s.beginFrame f code k b).pins = s.pins := by
  simp [State.beginFrame]

@[simp] theorem State.chooseNext_frame (s : State) (b : Bool) :
    (s.chooseNext b).pending = s.pending ∧ (s.chooseNext b).now = s.now ∧ (s.chooseNext b).beeper = s.beeper ∧
    (s.chooseNext b).kbd = s.kbd ∧ (s.chooseNext b).demod = s.demod ∧ (s.chooseNext b).call = s.call ∧
    (s.chooseNext b).asm = s.asm ∧ (s.chooseNext b).eng = s.eng ∧ (s.chooseNext b).bud = s.bud ∧
    (s.chooseNext b).line = s.line ∧ (s.chooseNext b).msg = s.msg ∧ (s.chooseNext b).pins = s.pins := by
  unfold State.chooseNext
  (repeat' split) <;> first | (simp; done) | simp [State.takeCell_frame _ _ _ _ ‹_›]

@[simp] theorem State.arrival_frame (s : State) :
    s.arrival.pending = s.pending ∧ s.arrival.now = s.now ∧ s.arrival.beeper = s.beeper ∧ s.arrival.kbd = s.kbd ∧
    s.arrival.demod = s.demod ∧ s.arrival.call = s.call ∧ s.arrival.asm = s.asm ∧ s.arrival.eng = s.eng ∧
    s.arrival.bud = s.bud ∧ s.arrival.line = s.line ∧ s.arrival.msg = s.msg ∧ s.arrival.pins = s.pins := by
  unfold State.arrival
  (repeat' split) <;> simp

@[simp] theorem State.startBreak_frame (s : State) :
    s.startBreak.pending = s.pending ∧ s.startBreak.now = s.now ∧ s.startBreak.pool = s.pool ∧
    s.startBreak.router = s.router ∧ s.startBreak.beeper = s.beeper ∧ s.startBreak.kbd = s.kbd ∧
    s.startBreak.demod = s.demod ∧ s.startBreak.call = s.call ∧ s.startBreak.asm = s.asm ∧ s.startBreak.eng = s.eng ∧
    s.startBreak.bud = s.bud ∧ s.startBreak.line = s.line ∧ s.startBreak.msg = s.msg ∧ s.startBreak.pins = s.pins := by
  simp [State.startBreak]

@[simp] theorem State.takeBreak_frame (s : State) :
    s.takeBreak.pending = s.pending ∧ s.takeBreak.now = s.now ∧ s.takeBreak.pool = s.pool ∧ s.takeBreak.router = s.router ∧
    s.takeBreak.beeper = s.beeper ∧ s.takeBreak.kbd = s.kbd ∧ s.takeBreak.demod = s.demod ∧ s.takeBreak.asm = s.asm ∧
    s.takeBreak.eng = s.eng ∧ s.takeBreak.bud = s.bud ∧ s.takeBreak.line = s.line ∧ s.takeBreak.msg = s.msg ∧
    s.takeBreak.pins = s.pins := by
  unfold State.takeBreak
  dsimp only
  (repeat' split) <;> simp

@[simp] theorem State.frameEnd_frame (s : State) (f : Frame) :
    (s.frameEnd f).pending = s.pending ∧ (s.frameEnd f).now = s.now ∧ (s.frameEnd f).beeper = s.beeper ∧
    (s.frameEnd f).kbd = s.kbd ∧ (s.frameEnd f).demod = s.demod ∧ (s.frameEnd f).call = s.call ∧
    (s.frameEnd f).asm = s.asm ∧ (s.frameEnd f).eng = s.eng ∧ (s.frameEnd f).bud = s.bud ∧ (s.frameEnd f).msg = s.msg ∧
    (s.frameEnd f).pins = s.pins := by
  unfold State.frameEnd
  dsimp only
  (repeat' split) <;> simp

@[simp] theorem State.silence_frame (s : State) :
    s.silence.pending = s.pending ∧ s.silence.now = s.now ∧ s.silence.pool = s.pool ∧ s.silence.router = s.router ∧
    s.silence.beeper = s.beeper ∧ s.silence.kbd = s.kbd ∧ s.silence.demod = s.demod ∧ s.silence.call = s.call ∧
    s.silence.asm = s.asm ∧ s.silence.eng = s.eng ∧ s.silence.bud = s.bud ∧ s.silence.line = s.line ∧
    s.silence.msg = s.msg ∧ s.silence.pins = s.pins := by
  simp [State.silence]

@[simp] theorem State.startCarrier_frame (s : State) :
    s.startCarrier.pending = s.pending ∧ s.startCarrier.now = s.now ∧ s.startCarrier.pool = s.pool ∧
    s.startCarrier.router = s.router ∧ s.startCarrier.beeper = s.beeper ∧ s.startCarrier.kbd = s.kbd ∧
    s.startCarrier.demod = s.demod ∧ s.startCarrier.call = s.call ∧ s.startCarrier.asm = s.asm ∧
    s.startCarrier.eng = s.eng ∧ s.startCarrier.bud = s.bud ∧ s.startCarrier.line = s.line ∧ s.startCarrier.msg = s.msg ∧
    s.startCarrier.pins = s.pins := by
  simp [State.startCarrier]

@[simp] theorem State.demodAfresh_frame (s : State) :
    s.demodAfresh.pending = s.pending ∧ s.demodAfresh.now = s.now ∧ s.demodAfresh.pool = s.pool ∧
    s.demodAfresh.router = s.router ∧ s.demodAfresh.beeper = s.beeper ∧ s.demodAfresh.kbd = s.kbd ∧
    s.demodAfresh.mod = s.mod ∧ s.demodAfresh.call = s.call ∧ s.demodAfresh.asm = s.asm ∧ s.demodAfresh.eng = s.eng ∧
    s.demodAfresh.bud = s.bud ∧ s.demodAfresh.line = s.line ∧ s.demodAfresh.msg = s.msg ∧ s.demodAfresh.pins = s.pins := by
  simp [State.demodAfresh]

@[simp] theorem State.samplerStart_frame (s : State) :
    s.samplerStart.pending = s.pending ∧ s.samplerStart.now = s.now ∧ s.samplerStart.pool = s.pool ∧
    s.samplerStart.router = s.router ∧ s.samplerStart.beeper = s.beeper ∧ s.samplerStart.kbd = s.kbd ∧
    s.samplerStart.mod = s.mod ∧ s.samplerStart.call = s.call ∧ s.samplerStart.asm = s.asm ∧ s.samplerStart.eng = s.eng ∧
    s.samplerStart.bud = s.bud ∧ s.samplerStart.line = s.line ∧ s.samplerStart.msg = s.msg ∧
    s.samplerStart.pins = s.pins := by
  simp [State.samplerStart]

@[simp] theorem State.samplerStop_frame (s : State) :
    s.samplerStop.pending = s.pending ∧ s.samplerStop.now = s.now ∧ s.samplerStop.pool = s.pool ∧
    s.samplerStop.router = s.router ∧ s.samplerStop.beeper = s.beeper ∧ s.samplerStop.kbd = s.kbd ∧
    s.samplerStop.mod = s.mod ∧ s.samplerStop.call = s.call ∧ s.samplerStop.asm = s.asm ∧ s.samplerStop.eng = s.eng ∧
    s.samplerStop.bud = s.bud ∧ s.samplerStop.line = s.line ∧ s.samplerStop.msg = s.msg ∧
    s.samplerStop.pins = s.pins := by
  simp [State.samplerStop]

@[simp] theorem State.demodStop_frame (s : State) :
    s.demodStop.pending = s.pending ∧ s.demodStop.now = s.now ∧ s.demodStop.pool = s.pool ∧ s.demodStop.router = s.router ∧
    s.demodStop.beeper = s.beeper ∧ s.demodStop.kbd = s.kbd ∧ s.demodStop.mod = s.mod ∧ s.demodStop.call = s.call ∧
    s.demodStop.asm = s.asm ∧ s.demodStop.eng = s.eng ∧ s.demodStop.bud = s.bud ∧ s.demodStop.line = s.line ∧
    s.demodStop.msg = s.msg ∧ s.demodStop.pins = s.pins := by
  simp [State.demodStop]

@[simp] theorem State.crossing_frame (s : State) (t : Nat) :
    (s.crossing t).pending = s.pending ∧ (s.crossing t).now = s.now ∧ (s.crossing t).pool = s.pool ∧
    (s.crossing t).router = s.router ∧ (s.crossing t).beeper = s.beeper ∧ (s.crossing t).kbd = s.kbd ∧
    (s.crossing t).mod = s.mod ∧ (s.crossing t).call = s.call ∧ (s.crossing t).asm = s.asm ∧ (s.crossing t).eng = s.eng ∧
    (s.crossing t).bud = s.bud ∧ (s.crossing t).line = s.line ∧ (s.crossing t).msg = s.msg ∧
    (s.crossing t).pins = s.pins := by
  unfold State.crossing
  (repeat' split) <;> simp

@[simp] theorem State.sampleOnce_frame (s : State) :
    s.sampleOnce.1.pending = s.pending ∧ s.sampleOnce.1.pool = s.pool ∧ s.sampleOnce.1.router = s.router ∧
    s.sampleOnce.1.beeper = s.beeper ∧ s.sampleOnce.1.kbd = s.kbd ∧ s.sampleOnce.1.call = s.call ∧
    s.sampleOnce.1.asm = s.asm ∧ s.sampleOnce.1.eng = s.eng ∧ s.sampleOnce.1.bud = s.bud ∧ s.sampleOnce.1.line = s.line ∧
    s.sampleOnce.1.msg = s.msg ∧ s.sampleOnce.1.pins = s.pins := by
  simp [State.sampleOnce]

/-! ## Characters on their way -/

@[simp] theorem State.offerReceived_frame (s : State) (c : Chain) (cell : Cell) :
    (s.offerReceived c cell).pending = s.pending ∧ (s.offerReceived c cell).now = s.now ∧
    (s.offerReceived c cell).beeper = s.beeper ∧ (s.offerReceived c cell).kbd = s.kbd ∧
    (s.offerReceived c cell).mod = s.mod ∧ (s.offerReceived c cell).demod = s.demod ∧
    (s.offerReceived c cell).call = s.call ∧ (s.offerReceived c cell).asm = s.asm ∧ (s.offerReceived c cell).eng = s.eng ∧
    (s.offerReceived c cell).bud = s.bud ∧ (s.offerReceived c cell).line = s.line ∧ (s.offerReceived c cell).msg = s.msg ∧
    (s.offerReceived c cell).pins = s.pins := by
  unfold State.offerReceived
  (repeat' split) <;> first | (simp; done) | simp [State.storeCell_frame _ _ _ _ ‹_›]

@[simp] theorem State.routeReceived_frame (s : State) (cell : Cell) :
    (s.routeReceived cell).pending = s.pending ∧ (s.routeReceived cell).now = s.now ∧
    (s.routeReceived cell).beeper = s.beeper ∧ (s.routeReceived cell).kbd = s.kbd ∧
    (s.routeReceived cell).demod = s.demod ∧ (s.routeReceived cell).call = s.call ∧ (s.routeReceived cell).eng = s.eng ∧
    (s.routeReceived cell).bud = s.bud ∧ (s.routeReceived cell).line = s.line ∧ (s.routeReceived cell).msg = s.msg ∧
    (s.routeReceived cell).pins = s.pins := by
  unfold State.routeReceived
  (repeat' split) <;> simp

@[simp] theorem State.flowReceived_frame (s : State) (c : FlowCode) :
    (s.flowReceived c).pending = s.pending ∧ (s.flowReceived c).now = s.now ∧ (s.flowReceived c).beeper = s.beeper ∧
    (s.flowReceived c).kbd = s.kbd ∧ (s.flowReceived c).demod = s.demod ∧ (s.flowReceived c).call = s.call ∧
    (s.flowReceived c).asm = s.asm ∧ (s.flowReceived c).eng = s.eng ∧ (s.flowReceived c).bud = s.bud ∧
    (s.flowReceived c).msg = s.msg ∧ (s.flowReceived c).pins = s.pins := by
  simp [State.flowReceived]

@[simp] theorem State.receiveItem_frame (s : State) (cell : Cell) :
    (s.receiveItem cell).pending = s.pending ∧ (s.receiveItem cell).now = s.now ∧ (s.receiveItem cell).beeper = s.beeper ∧
    (s.receiveItem cell).kbd = s.kbd ∧ (s.receiveItem cell).demod = s.demod ∧ (s.receiveItem cell).call = s.call ∧
    (s.receiveItem cell).eng = s.eng ∧ (s.receiveItem cell).bud = s.bud ∧ (s.receiveItem cell).msg = s.msg ∧
    (s.receiveItem cell).pins = s.pins := by
  unfold State.receiveItem
  (repeat' split) <;> simp

@[simp] theorem State.reportDiscard_frame (s : State) :
    s.reportDiscard.pending = s.pending ∧ s.reportDiscard.now = s.now ∧ s.reportDiscard.router = s.router ∧
    s.reportDiscard.beeper = s.beeper ∧ s.reportDiscard.kbd = s.kbd ∧ s.reportDiscard.mod = s.mod ∧
    s.reportDiscard.demod = s.demod ∧ s.reportDiscard.call = s.call ∧ s.reportDiscard.asm = s.asm ∧
    s.reportDiscard.eng = s.eng ∧ s.reportDiscard.bud = s.bud ∧ s.reportDiscard.line = s.line ∧
    s.reportDiscard.msg = s.msg ∧ s.reportDiscard.pins = s.pins := by
  unfold State.reportDiscard
  (repeat' split) <;> simp

@[simp] theorem State.echoKey_frame (s : State) (code : Byte) :
    (s.echoKey code).pending = s.pending ∧ (s.echoKey code).now = s.now ∧ (s.echoKey code).beeper = s.beeper ∧
    (s.echoKey code).kbd = s.kbd ∧ (s.echoKey code).mod = s.mod ∧ (s.echoKey code).demod = s.demod ∧
    (s.echoKey code).call = s.call ∧ (s.echoKey code).asm = s.asm ∧ (s.echoKey code).eng = s.eng ∧
    (s.echoKey code).bud = s.bud ∧ (s.echoKey code).line = s.line ∧ (s.echoKey code).msg = s.msg ∧
    (s.echoKey code).pins = s.pins := by
  unfold State.echoKey
  (repeat' split) <;> first | (simp; done) | simp [State.storeCell_frame _ _ _ _ ‹_›]

@[simp] theorem State.keyToLine_frame (s : State) (code : Byte) :
    (s.keyToLine code).pending = s.pending ∧ (s.keyToLine code).now = s.now ∧ (s.keyToLine code).kbd = s.kbd ∧
    (s.keyToLine code).demod = s.demod ∧ (s.keyToLine code).call = s.call ∧ (s.keyToLine code).eng = s.eng ∧
    (s.keyToLine code).bud = s.bud ∧ (s.keyToLine code).line = s.line ∧ (s.keyToLine code).msg = s.msg ∧
    (s.keyToLine code).pins = s.pins := by
  unfold State.keyToLine
  (repeat' split) <;> first | (simp; done) | simp [State.storeCell_frame _ _ _ _ ‹_›]

@[simp] theorem State.keyToPrinter_frame (s : State) (code : Byte) :
    (s.keyToPrinter code).pending = s.pending ∧ (s.keyToPrinter code).now = s.now ∧ (s.keyToPrinter code).kbd = s.kbd ∧
    (s.keyToPrinter code).demod = s.demod ∧ (s.keyToPrinter code).call = s.call ∧ (s.keyToPrinter code).eng = s.eng ∧
    (s.keyToPrinter code).bud = s.bud ∧ (s.keyToPrinter code).line = s.line ∧ (s.keyToPrinter code).msg = s.msg ∧
    (s.keyToPrinter code).pins = s.pins := by
  unfold State.keyToPrinter
  (repeat' split) <;> first | (simp; done) | simp [State.storeCell_frame _ _ _ _ ‹_›]

@[simp] theorem State.keyedChar_frame (s : State) (code : Byte) :
    (s.keyedChar code).pending = s.pending ∧ (s.keyedChar code).now = s.now ∧ (s.keyedChar code).kbd = s.kbd ∧
    (s.keyedChar code).demod = s.demod ∧ (s.keyedChar code).call = s.call ∧ (s.keyedChar code).eng = s.eng ∧
    (s.keyedChar code).bud = s.bud ∧ (s.keyedChar code).line = s.line ∧ (s.keyedChar code).msg = s.msg ∧
    (s.keyedChar code).pins = s.pins := by
  unfold State.keyedChar
  (repeat' split) <;> simp

@[simp] theorem State.printTextRule_frame (s : State) (body : List Byte) :
    ((s.printTextRule body).1).pending = s.pending ∧ ((s.printTextRule body).1).now = s.now ∧
    ((s.printTextRule body).1).beeper = s.beeper ∧ ((s.printTextRule body).1).kbd = s.kbd ∧
    ((s.printTextRule body).1).demod = s.demod ∧ ((s.printTextRule body).1).call = s.call ∧
    ((s.printTextRule body).1).eng = s.eng ∧ ((s.printTextRule body).1).bud = s.bud ∧
    ((s.printTextRule body).1).line = s.line ∧ ((s.printTextRule body).1).msg = s.msg ∧
    ((s.printTextRule body).1).pins = s.pins := by
  unfold State.printTextRule
  (repeat' split) <;> first | (simp; done) | simp [State.storeBody_frame _ _ _ _ ‹_›]

@[simp] theorem State.echoBody_frame (s : State) (body : List Byte) :
    (s.echoBody body).pending = s.pending ∧ (s.echoBody body).now = s.now ∧ (s.echoBody body).beeper = s.beeper ∧
    (s.echoBody body).kbd = s.kbd ∧ (s.echoBody body).mod = s.mod ∧ (s.echoBody body).demod = s.demod ∧
    (s.echoBody body).call = s.call ∧ (s.echoBody body).asm = s.asm ∧ (s.echoBody body).eng = s.eng ∧
    (s.echoBody body).bud = s.bud ∧ (s.echoBody body).line = s.line ∧ (s.echoBody body).msg = s.msg ∧
    (s.echoBody body).pins = s.pins := by
  unfold State.echoBody
  (repeat' split) <;> first | (simp; done) | simp [State.storeBody_frame _ _ _ _ ‹_›]

@[simp] theorem State.sendTextRule_frame (s : State) (body : List Byte) :
    ((s.sendTextRule body).1).pending = s.pending ∧ ((s.sendTextRule body).1).now = s.now ∧
    ((s.sendTextRule body).1).beeper = s.beeper ∧ ((s.sendTextRule body).1).kbd = s.kbd ∧
    ((s.sendTextRule body).1).demod = s.demod ∧ ((s.sendTextRule body).1).call = s.call ∧
    ((s.sendTextRule body).1).eng = s.eng ∧ ((s.sendTextRule body).1).bud = s.bud ∧
    ((s.sendTextRule body).1).line = s.line ∧ ((s.sendTextRule body).1).msg = s.msg ∧
    ((s.sendTextRule body).1).pins = s.pins := by
  unfold State.sendTextRule
  (repeat' split) <;> first | (simp; done) | simp [State.storeBody_frame _ _ _ _ ‹_›]

/-! ## The Budget Unit -/

@[simp] theorem State.handClaim_frame (s : State) (mA : Nat) :
    (s.handClaim mA).pending = s.pending ∧ (s.handClaim mA).now = s.now ∧ (s.handClaim mA).pool = s.pool ∧
    (s.handClaim mA).router = s.router ∧ (s.handClaim mA).beeper = s.beeper ∧ (s.handClaim mA).kbd = s.kbd ∧
    (s.handClaim mA).mod = s.mod ∧ (s.handClaim mA).demod = s.demod ∧ (s.handClaim mA).call = s.call ∧
    (s.handClaim mA).asm = s.asm ∧ (s.handClaim mA).eng = s.eng ∧ (s.handClaim mA).msg = s.msg ∧
    (s.handClaim mA).pins = s.pins := by
  simp [State.handClaim]

@[simp] theorem State.startBarrier_frame (s : State) :
    s.startBarrier.pending = s.pending ∧ s.startBarrier.now = s.now ∧ s.startBarrier.pool = s.pool ∧
    s.startBarrier.router = s.router ∧ s.startBarrier.beeper = s.beeper ∧ s.startBarrier.kbd = s.kbd ∧
    s.startBarrier.mod = s.mod ∧ s.startBarrier.demod = s.demod ∧ s.startBarrier.call = s.call ∧
    s.startBarrier.asm = s.asm ∧ s.startBarrier.eng = s.eng ∧ s.startBarrier.line = s.line ∧ s.startBarrier.msg = s.msg ∧
    s.startBarrier.pins = s.pins := by
  simp [State.startBarrier]

@[simp] theorem State.setGranted_frame (s : State) (mA : Nat) (c : BudgetCause) :
    (s.setGranted mA c).pending = s.pending ∧ (s.setGranted mA c).now = s.now ∧ (s.setGranted mA c).pool = s.pool ∧
    (s.setGranted mA c).router = s.router ∧ (s.setGranted mA c).beeper = s.beeper ∧ (s.setGranted mA c).kbd = s.kbd ∧
    (s.setGranted mA c).mod = s.mod ∧ (s.setGranted mA c).demod = s.demod ∧ (s.setGranted mA c).call = s.call ∧
    (s.setGranted mA c).asm = s.asm ∧ (s.setGranted mA c).eng = s.eng ∧ (s.setGranted mA c).msg = s.msg ∧
    (s.setGranted mA c).pins = s.pins := by
  unfold State.setGranted
  (repeat' split) <;> simp

@[simp] theorem State.raiseTest_frame (s : State) :
    s.raiseTest.pending = s.pending ∧ s.raiseTest.now = s.now ∧ s.raiseTest.pool = s.pool ∧ s.raiseTest.router = s.router ∧
    s.raiseTest.beeper = s.beeper ∧ s.raiseTest.kbd = s.kbd ∧ s.raiseTest.mod = s.mod ∧ s.raiseTest.demod = s.demod ∧
    s.raiseTest.call = s.call ∧ s.raiseTest.asm = s.asm ∧ s.raiseTest.eng = s.eng ∧ s.raiseTest.msg = s.msg ∧
    s.raiseTest.pins = s.pins := by
  unfold State.raiseTest
  (repeat' split) <;> simp

@[simp] theorem State.budgetReview_frame (before s : State) :
    (State.budgetReview before s).pending = s.pending ∧ (State.budgetReview before s).now = s.now ∧
    (State.budgetReview before s).pool = s.pool ∧ (State.budgetReview before s).router = s.router ∧
    (State.budgetReview before s).beeper = s.beeper ∧ (State.budgetReview before s).kbd = s.kbd ∧
    (State.budgetReview before s).mod = s.mod ∧ (State.budgetReview before s).demod = s.demod ∧
    (State.budgetReview before s).call = s.call ∧ (State.budgetReview before s).asm = s.asm ∧
    (State.budgetReview before s).eng = s.eng ∧ (State.budgetReview before s).msg = s.msg ∧
    (State.budgetReview before s).pins = s.pins := by
  unfold State.budgetReview
  (repeat' split) <;> simp

@[simp] theorem State.parkReview_frame (before s : State) :
    (State.parkReview before s).pending = s.pending ∧ (State.parkReview before s).now = s.now ∧
    (State.parkReview before s).pool = s.pool ∧ (State.parkReview before s).router = s.router ∧
    (State.parkReview before s).beeper = s.beeper ∧ (State.parkReview before s).kbd = s.kbd ∧
    (State.parkReview before s).mod = s.mod ∧ (State.parkReview before s).demod = s.demod ∧
    (State.parkReview before s).call = s.call ∧ (State.parkReview before s).asm = s.asm ∧
    (State.parkReview before s).eng = s.eng ∧ (State.parkReview before s).line = s.line ∧
    (State.parkReview before s).msg = s.msg ∧ (State.parkReview before s).pins = s.pins := by
  unfold State.parkReview
  (repeat' split) <;> simp

@[simp] theorem State.settleEnd_frame (s : State) (c : Nat) :
    (s.settleEnd c).pending = s.pending ∧ (s.settleEnd c).now = s.now ∧ (s.settleEnd c).pool = s.pool ∧
    (s.settleEnd c).router = s.router ∧ (s.settleEnd c).beeper = s.beeper ∧ (s.settleEnd c).kbd = s.kbd ∧
    (s.settleEnd c).mod = s.mod ∧ (s.settleEnd c).demod = s.demod ∧ (s.settleEnd c).call = s.call ∧
    (s.settleEnd c).asm = s.asm ∧ (s.settleEnd c).eng = s.eng ∧ (s.settleEnd c).msg = s.msg ∧
    (s.settleEnd c).pins = s.pins := by
  unfold State.settleEnd
  dsimp only
  (repeat' split) <;> simp

@[simp] theorem State.lowerAtStart_frame (s : State) :
    s.lowerAtStart.pending = s.pending ∧ s.lowerAtStart.now = s.now ∧ s.lowerAtStart.pool = s.pool ∧
    s.lowerAtStart.router = s.router ∧ s.lowerAtStart.beeper = s.beeper ∧ s.lowerAtStart.kbd = s.kbd ∧
    s.lowerAtStart.mod = s.mod ∧ s.lowerAtStart.demod = s.demod ∧ s.lowerAtStart.call = s.call ∧
    s.lowerAtStart.asm = s.asm ∧ s.lowerAtStart.eng = s.eng ∧ s.lowerAtStart.msg = s.msg ∧ s.lowerAtStart.pins = s.pins := by
  unfold State.lowerAtStart
  (repeat' split) <;> simp

@[simp] theorem State.releaseClaim_frame (s : State) (z : Bool) (c : BudgetCause) :
    (s.releaseClaim z c).pending = s.pending ∧ (s.releaseClaim z c).now = s.now ∧ (s.releaseClaim z c).pool = s.pool ∧
    (s.releaseClaim z c).router = s.router ∧ (s.releaseClaim z c).beeper = s.beeper ∧ (s.releaseClaim z c).kbd = s.kbd ∧
    (s.releaseClaim z c).mod = s.mod ∧ (s.releaseClaim z c).demod = s.demod ∧ (s.releaseClaim z c).call = s.call ∧
    (s.releaseClaim z c).asm = s.asm ∧ (s.releaseClaim z c).eng = s.eng ∧ (s.releaseClaim z c).msg = s.msg ∧
    (s.releaseClaim z c).pins = s.pins := by
  unfold State.releaseClaim
  (repeat' split) <;> simp

@[simp] theorem State.dozeRelease_frame (s : State) :
    s.dozeRelease.pending = s.pending ∧ s.dozeRelease.now = s.now ∧ s.dozeRelease.pool = s.pool ∧
    s.dozeRelease.router = s.router ∧ s.dozeRelease.beeper = s.beeper ∧ s.dozeRelease.kbd = s.kbd ∧
    s.dozeRelease.mod = s.mod ∧ s.dozeRelease.demod = s.demod ∧ s.dozeRelease.call = s.call ∧ s.dozeRelease.asm = s.asm ∧
    s.dozeRelease.eng = s.eng ∧ s.dozeRelease.msg = s.msg ∧ s.dozeRelease.pins = s.pins := by
  simp [State.dozeRelease]

@[simp] theorem State.claimCompleted_frame (s : State) (mA : Nat) (b : Bool) :
    (s.claimCompleted mA b).pending = s.pending ∧ (s.claimCompleted mA b).now = s.now ∧
    (s.claimCompleted mA b).pool = s.pool ∧ (s.claimCompleted mA b).router = s.router ∧
    (s.claimCompleted mA b).beeper = s.beeper ∧ (s.claimCompleted mA b).kbd = s.kbd ∧ (s.claimCompleted mA b).mod = s.mod ∧
    (s.claimCompleted mA b).demod = s.demod ∧ (s.claimCompleted mA b).call = s.call ∧ (s.claimCompleted mA b).asm = s.asm ∧
    (s.claimCompleted mA b).eng = s.eng ∧ (s.claimCompleted mA b).line = s.line ∧ (s.claimCompleted mA b).msg = s.msg ∧
    (s.claimCompleted mA b).pins = s.pins := by
  unfold State.claimCompleted
  (repeat' split) <;> simp

@[simp] theorem State.claimDiscarded_frame (s : State) (mA : Nat) :
    (s.claimDiscarded mA).pending = s.pending ∧ (s.claimDiscarded mA).now = s.now ∧ (s.claimDiscarded mA).pool = s.pool ∧
    (s.claimDiscarded mA).router = s.router ∧ (s.claimDiscarded mA).beeper = s.beeper ∧ (s.claimDiscarded mA).kbd = s.kbd ∧
    (s.claimDiscarded mA).mod = s.mod ∧ (s.claimDiscarded mA).demod = s.demod ∧ (s.claimDiscarded mA).call = s.call ∧
    (s.claimDiscarded mA).asm = s.asm ∧ (s.claimDiscarded mA).eng = s.eng ∧ (s.claimDiscarded mA).line = s.line ∧
    (s.claimDiscarded mA).msg = s.msg ∧ (s.claimDiscarded mA).pins = s.pins := by
  unfold State.claimDiscarded
  (repeat' split) <;> simp

/-! ## The Print Engine -/

@[simp] theorem State.setEngineState_frame (s : State) (st : EngineState) :
    (s.setEngineState st).pending = s.pending ∧ (s.setEngineState st).now = s.now ∧ (s.setEngineState st).pool = s.pool ∧
    (s.setEngineState st).router = s.router ∧ (s.setEngineState st).beeper = s.beeper ∧ (s.setEngineState st).kbd = s.kbd ∧
    (s.setEngineState st).mod = s.mod ∧ (s.setEngineState st).demod = s.demod ∧ (s.setEngineState st).call = s.call ∧
    (s.setEngineState st).asm = s.asm ∧ (s.setEngineState st).bud = s.bud ∧ (s.setEngineState st).line = s.line ∧
    (s.setEngineState st).msg = s.msg ∧ (s.setEngineState st).pins = s.pins := by
  unfold State.setEngineState
  (repeat' split) <;> simp

@[simp] theorem State.readSense_frame (s : State) (x : Sense) :
    (s.readSense x).pending = s.pending ∧ (s.readSense x).now = s.now ∧ (s.readSense x).pool = s.pool ∧
    (s.readSense x).router = s.router ∧ (s.readSense x).beeper = s.beeper ∧ (s.readSense x).kbd = s.kbd ∧
    (s.readSense x).mod = s.mod ∧ (s.readSense x).demod = s.demod ∧ (s.readSense x).call = s.call ∧
    (s.readSense x).asm = s.asm ∧ (s.readSense x).bud = s.bud ∧ (s.readSense x).line = s.line ∧
    (s.readSense x).msg = s.msg := by
  simp [State.readSense]

@[simp] theorem State.enterHeld_frame (s : State) (h : HoldSet) :
    (s.enterHeld h).pending = s.pending ∧ (s.enterHeld h).now = s.now ∧ (s.enterHeld h).pool = s.pool ∧
    (s.enterHeld h).router = s.router ∧ (s.enterHeld h).beeper = s.beeper ∧ (s.enterHeld h).kbd = s.kbd ∧
    (s.enterHeld h).mod = s.mod ∧ (s.enterHeld h).demod = s.demod ∧ (s.enterHeld h).call = s.call ∧
    (s.enterHeld h).asm = s.asm ∧ (s.enterHeld h).bud = s.bud ∧ (s.enterHeld h).msg = s.msg ∧
    (s.enterHeld h).pins = s.pins := by
  unfold State.enterHeld
  (repeat' split) <;> simp

@[simp] theorem State.keepHeld_frame (s : State) (h : HoldSet) :
    (s.keepHeld h).pending = s.pending ∧ (s.keepHeld h).now = s.now ∧ (s.keepHeld h).pool = s.pool ∧
    (s.keepHeld h).router = s.router ∧ (s.keepHeld h).beeper = s.beeper ∧ (s.keepHeld h).kbd = s.kbd ∧
    (s.keepHeld h).mod = s.mod ∧ (s.keepHeld h).demod = s.demod ∧ (s.keepHeld h).call = s.call ∧
    (s.keepHeld h).asm = s.asm ∧ (s.keepHeld h).bud = s.bud ∧ (s.keepHeld h).msg = s.msg ∧ (s.keepHeld h).pins = s.pins := by
  unfold State.keepHeld
  (repeat' split) <;> simp

@[simp] theorem State.applyHolds_frame (s : State) (h : HoldSet) :
    (s.applyHolds h).pending = s.pending ∧ (s.applyHolds h).now = s.now ∧ (s.applyHolds h).pool = s.pool ∧
    (s.applyHolds h).router = s.router ∧ (s.applyHolds h).beeper = s.beeper ∧ (s.applyHolds h).kbd = s.kbd ∧
    (s.applyHolds h).mod = s.mod ∧ (s.applyHolds h).demod = s.demod ∧ (s.applyHolds h).call = s.call ∧
    (s.applyHolds h).asm = s.asm ∧ (s.applyHolds h).bud = s.bud ∧ (s.applyHolds h).msg = s.msg ∧
    (s.applyHolds h).pins = s.pins := by
  unfold State.applyHolds
  (repeat' split) <;> simp

@[simp] theorem State.raiseBudgetHold_frame (s : State) :
    s.raiseBudgetHold.pending = s.pending ∧ s.raiseBudgetHold.now = s.now ∧ s.raiseBudgetHold.pool = s.pool ∧
    s.raiseBudgetHold.router = s.router ∧ s.raiseBudgetHold.beeper = s.beeper ∧ s.raiseBudgetHold.kbd = s.kbd ∧
    s.raiseBudgetHold.mod = s.mod ∧ s.raiseBudgetHold.demod = s.demod ∧ s.raiseBudgetHold.call = s.call ∧
    s.raiseBudgetHold.asm = s.asm ∧ s.raiseBudgetHold.bud = s.bud ∧ s.raiseBudgetHold.msg = s.msg ∧
    s.raiseBudgetHold.pins = s.pins := by
  simp [State.raiseBudgetHold]

@[simp] theorem State.takeRun_frame (s : State) :
    s.takeRun.pending = s.pending ∧ s.takeRun.now = s.now ∧ s.takeRun.pool = s.pool ∧ s.takeRun.router = s.router ∧
    s.takeRun.beeper = s.beeper ∧ s.takeRun.kbd = s.kbd ∧ s.takeRun.mod = s.mod ∧ s.takeRun.demod = s.demod ∧
    s.takeRun.call = s.call ∧ s.takeRun.bud = s.bud ∧ s.takeRun.line = s.line ∧ s.takeRun.msg = s.msg ∧
    s.takeRun.pins = s.pins := by
  unfold State.takeRun
  (repeat' split) <;> simp

@[simp] theorem State.beginDotLine_frame (s : State) (p : Dots) (b : List Dots) :
    (s.beginDotLine p b).pending = s.pending ∧ (s.beginDotLine p b).now = s.now ∧ (s.beginDotLine p b).pool = s.pool ∧
    (s.beginDotLine p b).router = s.router ∧ (s.beginDotLine p b).beeper = s.beeper ∧ (s.beginDotLine p b).kbd = s.kbd ∧
    (s.beginDotLine p b).mod = s.mod ∧ (s.beginDotLine p b).demod = s.demod ∧ (s.beginDotLine p b).call = s.call ∧
    (s.beginDotLine p b).asm = s.asm ∧ (s.beginDotLine p b).bud = s.bud ∧ (s.beginDotLine p b).line = s.line ∧
    (s.beginDotLine p b).msg = s.msg ∧ (s.beginDotLine p b).pins = s.pins := by
  simp [State.beginDotLine]

@[simp] theorem State.budgetAndPack_frame (s : State) :
    s.budgetAndPack.pending = s.pending ∧ s.budgetAndPack.now = s.now ∧ s.budgetAndPack.pool = s.pool ∧
    s.budgetAndPack.router = s.router ∧ s.budgetAndPack.beeper = s.beeper ∧ s.budgetAndPack.kbd = s.kbd ∧
    s.budgetAndPack.mod = s.mod ∧ s.budgetAndPack.demod = s.demod ∧ s.budgetAndPack.call = s.call ∧
    s.budgetAndPack.asm = s.asm ∧ s.budgetAndPack.msg = s.msg ∧ s.budgetAndPack.pins = s.pins := by
  unfold State.budgetAndPack
  dsimp only
  (repeat' split) <;> simp

@[simp] theorem State.sampleStage_frame (s : State) (x : Sense) :
    (s.sampleStage x).pending = s.pending ∧ (s.sampleStage x).now = s.now ∧ (s.sampleStage x).pool = s.pool ∧
    (s.sampleStage x).router = s.router ∧ (s.sampleStage x).beeper = s.beeper ∧ (s.sampleStage x).kbd = s.kbd ∧
    (s.sampleStage x).mod = s.mod ∧ (s.sampleStage x).demod = s.demod ∧ (s.sampleStage x).call = s.call ∧
    (s.sampleStage x).msg = s.msg := by
  unfold State.sampleStage
  dsimp only
  (repeat' split) <;> simp

@[simp] theorem State.advanceRun_frame (s : State) :
    s.advanceRun.1.pending = s.pending ∧ s.advanceRun.1.now = s.now ∧ s.advanceRun.1.pool = s.pool ∧
    s.advanceRun.1.router = s.router ∧ s.advanceRun.1.beeper = s.beeper ∧ s.advanceRun.1.kbd = s.kbd ∧
    s.advanceRun.1.mod = s.mod ∧ s.advanceRun.1.demod = s.demod ∧ s.advanceRun.1.call = s.call ∧
    s.advanceRun.1.bud = s.bud ∧ s.advanceRun.1.line = s.line ∧ s.advanceRun.1.msg = s.msg ∧
    s.advanceRun.1.pins = s.pins := by
  unfold State.advanceRun
  (repeat' split) <;> simp

@[simp] theorem State.completeDotLine_frame (s : State) (d : DotLine) :
    ((s.completeDotLine d).1).pending = s.pending ∧ ((s.completeDotLine d).1).now = s.now ∧
    ((s.completeDotLine d).1).pool = s.pool ∧ ((s.completeDotLine d).1).router = s.router ∧
    ((s.completeDotLine d).1).beeper = s.beeper ∧ ((s.completeDotLine d).1).kbd = s.kbd ∧
    ((s.completeDotLine d).1).mod = s.mod ∧ ((s.completeDotLine d).1).demod = s.demod ∧
    ((s.completeDotLine d).1).call = s.call ∧ ((s.completeDotLine d).1).bud = s.bud ∧
    ((s.completeDotLine d).1).line = s.line ∧ ((s.completeDotLine d).1).msg = s.msg := by
  unfold State.completeDotLine
  (repeat' split) <;> simp

@[simp] theorem State.goOn_frame (s : State) (x : Sense) :
    (s.goOn x).pending = s.pending ∧ (s.goOn x).now = s.now ∧ (s.goOn x).pool = s.pool ∧ (s.goOn x).router = s.router ∧
    (s.goOn x).beeper = s.beeper ∧ (s.goOn x).kbd = s.kbd ∧ (s.goOn x).mod = s.mod ∧ (s.goOn x).demod = s.demod ∧
    (s.goOn x).call = s.call ∧ (s.goOn x).msg = s.msg := by
  unfold State.goOn
  (repeat' split) <;> simp

@[simp] theorem State.endDotLine_frame (s : State) (d : DotLine) (x : Sense) :
    (s.endDotLine d x).pending = s.pending ∧ (s.endDotLine d x).now = s.now ∧ (s.endDotLine d x).pool = s.pool ∧
    (s.endDotLine d x).router = s.router ∧ (s.endDotLine d x).beeper = s.beeper ∧ (s.endDotLine d x).kbd = s.kbd ∧
    (s.endDotLine d x).mod = s.mod ∧ (s.endDotLine d x).demod = s.demod ∧ (s.endDotLine d x).call = s.call ∧
    (s.endDotLine d x).msg = s.msg := by
  unfold State.endDotLine
  dsimp only
  (repeat' split) <;> simp

@[simp] theorem State.startItem_frame (s : State) (x : Sense) :
    (s.startItem x).pending = s.pending ∧ (s.startItem x).now = s.now ∧ (s.startItem x).pool = s.pool ∧
    (s.startItem x).router = s.router ∧ (s.startItem x).beeper = s.beeper ∧ (s.startItem x).kbd = s.kbd ∧
    (s.startItem x).mod = s.mod ∧ (s.startItem x).demod = s.demod ∧ (s.startItem x).call = s.call ∧
    (s.startItem x).msg = s.msg := by
  unfold State.startItem
  (repeat' split) <;> simp

@[simp] theorem State.workTest_frame (s : State) (x : Sense) :
    (s.workTest x).pending = s.pending ∧ (s.workTest x).now = s.now ∧ (s.workTest x).pool = s.pool ∧
    (s.workTest x).router = s.router ∧ (s.workTest x).beeper = s.beeper ∧ (s.workTest x).kbd = s.kbd ∧
    (s.workTest x).mod = s.mod ∧ (s.workTest x).demod = s.demod ∧ (s.workTest x).call = s.call ∧
    (s.workTest x).msg = s.msg := by
  unfold State.workTest
  (repeat' split) <;> simp

@[simp] theorem State.leaveHeld_frame (s : State) (x : Sense) :
    (s.leaveHeld x).pending = s.pending ∧ (s.leaveHeld x).now = s.now ∧ (s.leaveHeld x).pool = s.pool ∧
    (s.leaveHeld x).router = s.router ∧ (s.leaveHeld x).beeper = s.beeper ∧ (s.leaveHeld x).kbd = s.kbd ∧
    (s.leaveHeld x).mod = s.mod ∧ (s.leaveHeld x).demod = s.demod ∧ (s.leaveHeld x).call = s.call ∧
    (s.leaveHeld x).msg = s.msg := by
  unfold State.leaveHeld
  dsimp only
  (repeat' split) <;> simp

@[simp] theorem State.changeHolds_frame (s : State) (h : HoldSet) (x : Sense) :
    (s.changeHolds h x).pending = s.pending ∧ (s.changeHolds h x).now = s.now ∧ (s.changeHolds h x).pool = s.pool ∧
    (s.changeHolds h x).router = s.router ∧ (s.changeHolds h x).beeper = s.beeper ∧ (s.changeHolds h x).kbd = s.kbd ∧
    (s.changeHolds h x).mod = s.mod ∧ (s.changeHolds h x).demod = s.demod ∧ (s.changeHolds h x).call = s.call ∧
    (s.changeHolds h x).msg = s.msg := by
  unfold State.changeHolds
  (repeat' split) <;> simp

@[simp] theorem State.workAppears_frame (s : State) (x : Sense) :
    (s.workAppears x).pending = s.pending ∧ (s.workAppears x).now = s.now ∧ (s.workAppears x).pool = s.pool ∧
    (s.workAppears x).router = s.router ∧ (s.workAppears x).beeper = s.beeper ∧ (s.workAppears x).kbd = s.kbd ∧
    (s.workAppears x).mod = s.mod ∧ (s.workAppears x).demod = s.demod ∧ (s.workAppears x).call = s.call ∧
    (s.workAppears x).msg = s.msg := by
  unfold State.workAppears
  (repeat' split) <;> simp

@[simp] theorem State.sampleNow_frame (s : State) (x : Sense) :
    (s.sampleNow x).pending = s.pending ∧ (s.sampleNow x).now = s.now ∧ (s.sampleNow x).pool = s.pool ∧
    (s.sampleNow x).router = s.router ∧ (s.sampleNow x).beeper = s.beeper ∧ (s.sampleNow x).kbd = s.kbd ∧
    (s.sampleNow x).mod = s.mod ∧ (s.sampleNow x).demod = s.demod ∧ (s.sampleNow x).call = s.call ∧
    (s.sampleNow x).asm = s.asm ∧ (s.sampleNow x).bud = s.bud ∧ (s.sampleNow x).msg = s.msg := by
  unfold State.sampleNow
  dsimp only
  (repeat' split) <;> simp

@[simp] theorem State.watch_frame (s : State) (x : Sense) :
    (s.watch x).pending = s.pending ∧ (s.watch x).now = s.now ∧ (s.watch x).pool = s.pool ∧ (s.watch x).router = s.router ∧
    (s.watch x).beeper = s.beeper ∧ (s.watch x).kbd = s.kbd ∧ (s.watch x).mod = s.mod ∧ (s.watch x).demod = s.demod ∧
    (s.watch x).call = s.call ∧ (s.watch x).msg = s.msg := by
  unfold State.watch
  dsimp only
  (repeat' split) <;> simp

@[simp] theorem State.settleReport_frame (s : State) (x : Sense) :
    (s.settleReport x).pending = s.pending ∧ (s.settleReport x).now = s.now ∧ (s.settleReport x).pool = s.pool ∧
    (s.settleReport x).router = s.router ∧ (s.settleReport x).beeper = s.beeper ∧ (s.settleReport x).kbd = s.kbd ∧
    (s.settleReport x).mod = s.mod ∧ (s.settleReport x).demod = s.demod ∧ (s.settleReport x).call = s.call ∧
    (s.settleReport x).msg = s.msg := by
  unfold State.settleReport
  (repeat' split) <;> simp

@[simp] theorem State.engineListenOnly_frame (s : State) (x : Sense) :
    (s.engineListenOnly x).pending = s.pending ∧ (s.engineListenOnly x).now = s.now ∧
    (s.engineListenOnly x).pool = s.pool ∧ (s.engineListenOnly x).router = s.router ∧
    (s.engineListenOnly x).beeper = s.beeper ∧ (s.engineListenOnly x).kbd = s.kbd ∧ (s.engineListenOnly x).mod = s.mod ∧
    (s.engineListenOnly x).demod = s.demod ∧ (s.engineListenOnly x).call = s.call ∧ (s.engineListenOnly x).msg = s.msg := by
  unfold State.engineListenOnly
  dsimp only
  (repeat' split) <;> simp

@[simp] theorem State.holdRule_frame (s : State) :
    s.holdRule.1.pending = s.pending ∧ s.holdRule.1.now = s.now ∧ s.holdRule.1.pool = s.pool ∧
    s.holdRule.1.router = s.router ∧ s.holdRule.1.beeper = s.beeper ∧ s.holdRule.1.kbd = s.kbd ∧ s.holdRule.1.mod = s.mod ∧
    s.holdRule.1.demod = s.demod ∧ s.holdRule.1.call = s.call ∧ s.holdRule.1.asm = s.asm ∧ s.holdRule.1.bud = s.bud ∧
    s.holdRule.1.msg = s.msg ∧ s.holdRule.1.pins = s.pins := by
  unfold State.holdRule
  (repeat' split) <;> simp

@[simp] theorem State.resumeRule_frame (s : State) (x : Sense) :
    ((s.resumeRule x).1).pending = s.pending ∧ ((s.resumeRule x).1).now = s.now ∧ ((s.resumeRule x).1).pool = s.pool ∧
    ((s.resumeRule x).1).router = s.router ∧ ((s.resumeRule x).1).beeper = s.beeper ∧ ((s.resumeRule x).1).kbd = s.kbd ∧
    ((s.resumeRule x).1).mod = s.mod ∧ ((s.resumeRule x).1).demod = s.demod ∧ ((s.resumeRule x).1).call = s.call ∧
    ((s.resumeRule x).1).msg = s.msg := by
  unfold State.resumeRule
  (repeat' split) <;> simp

@[simp] theorem State.cutDotLine_frame (s : State) :
    s.cutDotLine.pending = s.pending ∧ s.cutDotLine.now = s.now ∧ s.cutDotLine.pool = s.pool ∧
    s.cutDotLine.router = s.router ∧ s.cutDotLine.beeper = s.beeper ∧ s.cutDotLine.kbd = s.kbd ∧ s.cutDotLine.mod = s.mod ∧
    s.cutDotLine.demod = s.demod ∧ s.cutDotLine.call = s.call ∧ s.cutDotLine.asm = s.asm ∧ s.cutDotLine.bud = s.bud ∧
    s.cutDotLine.line = s.line ∧ s.cutDotLine.msg = s.msg := by
  unfold State.cutDotLine
  (repeat' split) <;> simp

@[simp] theorem State.stopNowRule_frame (s : State) :
    s.stopNowRule.1.pending = s.pending ∧ s.stopNowRule.1.now = s.now ∧ s.stopNowRule.1.pool = s.pool ∧
    s.stopNowRule.1.router = s.router ∧ s.stopNowRule.1.beeper = s.beeper ∧ s.stopNowRule.1.kbd = s.kbd ∧
    s.stopNowRule.1.mod = s.mod ∧ s.stopNowRule.1.demod = s.demod ∧ s.stopNowRule.1.call = s.call ∧
    s.stopNowRule.1.asm = s.asm ∧ s.stopNowRule.1.bud = s.bud ∧ s.stopNowRule.1.msg = s.msg := by
  simp [State.stopNowRule]

@[simp] theorem State.stepLineRule_frame (s : State) (x : Sense) :
    ((s.stepLineRule x).1).pending = s.pending ∧ ((s.stepLineRule x).1).now = s.now ∧
    ((s.stepLineRule x).1).pool = s.pool ∧ ((s.stepLineRule x).1).router = s.router ∧
    ((s.stepLineRule x).1).beeper = s.beeper ∧ ((s.stepLineRule x).1).kbd = s.kbd ∧ ((s.stepLineRule x).1).mod = s.mod ∧
    ((s.stepLineRule x).1).demod = s.demod ∧ ((s.stepLineRule x).1).call = s.call ∧ ((s.stepLineRule x).1).msg = s.msg := by
  unfold State.stepLineRule
  (repeat' split) <;> simp

@[simp] theorem State.rawDotLineRule_frame (s : State) (b : List Byte) (x : Sense) :
    ((s.rawDotLineRule b x).1).pending = s.pending ∧ ((s.rawDotLineRule b x).1).now = s.now ∧
    ((s.rawDotLineRule b x).1).pool = s.pool ∧ ((s.rawDotLineRule b x).1).router = s.router ∧
    ((s.rawDotLineRule b x).1).beeper = s.beeper ∧ ((s.rawDotLineRule b x).1).kbd = s.kbd ∧
    ((s.rawDotLineRule b x).1).mod = s.mod ∧ ((s.rawDotLineRule b x).1).demod = s.demod ∧
    ((s.rawDotLineRule b x).1).call = s.call ∧ ((s.rawDotLineRule b x).1).msg = s.msg := by
  unfold State.rawDotLineRule
  (repeat' split) <;> simp

@[simp] theorem State.setDarknessRule_frame (s : State) (v : Byte) :
    ((s.setDarknessRule v).1).pending = s.pending ∧ ((s.setDarknessRule v).1).now = s.now ∧
    ((s.setDarknessRule v).1).pool = s.pool ∧ ((s.setDarknessRule v).1).router = s.router ∧
    ((s.setDarknessRule v).1).beeper = s.beeper ∧ ((s.setDarknessRule v).1).kbd = s.kbd ∧
    ((s.setDarknessRule v).1).mod = s.mod ∧ ((s.setDarknessRule v).1).demod = s.demod ∧
    ((s.setDarknessRule v).1).call = s.call ∧ ((s.setDarknessRule v).1).eng = s.eng ∧
    ((s.setDarknessRule v).1).bud = s.bud ∧ ((s.setDarknessRule v).1).line = s.line ∧
    ((s.setDarknessRule v).1).msg = s.msg ∧ ((s.setDarknessRule v).1).pins = s.pins := by
  simp [State.setDarknessRule]

@[simp] theorem State.setWidthRule_frame (s : State) (v : Byte) :
    ((s.setWidthRule v).1).pending = s.pending ∧ ((s.setWidthRule v).1).now = s.now ∧
    ((s.setWidthRule v).1).pool = s.pool ∧ ((s.setWidthRule v).1).router = s.router ∧
    ((s.setWidthRule v).1).beeper = s.beeper ∧ ((s.setWidthRule v).1).kbd = s.kbd ∧ ((s.setWidthRule v).1).mod = s.mod ∧
    ((s.setWidthRule v).1).demod = s.demod ∧ ((s.setWidthRule v).1).call = s.call ∧ ((s.setWidthRule v).1).eng = s.eng ∧
    ((s.setWidthRule v).1).bud = s.bud ∧ ((s.setWidthRule v).1).line = s.line ∧ ((s.setWidthRule v).1).msg = s.msg ∧
    ((s.setWidthRule v).1).pins = s.pins := by
  simp [State.setWidthRule]

@[simp] theorem State.paperFeed_frame (s : State) (x : Sense) :
    (s.paperFeed x).pending = s.pending ∧ (s.paperFeed x).now = s.now ∧ (s.paperFeed x).pool = s.pool ∧
    (s.paperFeed x).router = s.router ∧ (s.paperFeed x).kbd = s.kbd ∧ (s.paperFeed x).mod = s.mod ∧
    (s.paperFeed x).demod = s.demod ∧ (s.paperFeed x).call = s.call ∧ (s.paperFeed x).msg = s.msg := by
  unfold State.paperFeed
  dsimp only
  (repeat' split) <;> simp

/-! ## Closing images and taking cells -/

@[simp] theorem State.closeImage_frame (s : State) (id : ImageId) (n : Nat) (x : Sense) :
    (s.closeImage id n x).pending = s.pending ∧ (s.closeImage id n x).now = s.now ∧ (s.closeImage id n x).pool = s.pool ∧
    (s.closeImage id n x).router = s.router ∧ (s.closeImage id n x).beeper = s.beeper ∧ (s.closeImage id n x).kbd = s.kbd ∧
    (s.closeImage id n x).mod = s.mod ∧ (s.closeImage id n x).demod = s.demod ∧ (s.closeImage id n x).call = s.call ∧
    (s.closeImage id n x).msg = s.msg := by
  simp [State.closeImage]

@[simp] theorem State.place_frame (s : State) (id : ImageId) (g : Glyph) :
    ((s.place id g).1).pending = s.pending ∧ ((s.place id g).1).now = s.now ∧ ((s.place id g).1).pool = s.pool ∧
    ((s.place id g).1).router = s.router ∧ ((s.place id g).1).beeper = s.beeper ∧ ((s.place id g).1).kbd = s.kbd ∧
    ((s.place id g).1).mod = s.mod ∧ ((s.place id g).1).demod = s.demod ∧ ((s.place id g).1).call = s.call ∧
    ((s.place id g).1).eng = s.eng ∧ ((s.place id g).1).bud = s.bud ∧ ((s.place id g).1).line = s.line ∧
    ((s.place id g).1).msg = s.msg ∧ ((s.place id g).1).pins = s.pins := by
  unfold State.place
  (repeat' split) <;> simp

@[simp] theorem State.wrap_frame (s : State) (id : ImageId) (c : List Glyph) (x : Sense) :
    (s.wrap id c x).pending = s.pending ∧ (s.wrap id c x).now = s.now ∧ (s.wrap id c x).pool = s.pool ∧
    (s.wrap id c x).router = s.router ∧ (s.wrap id c x).beeper = s.beeper ∧ (s.wrap id c x).kbd = s.kbd ∧
    (s.wrap id c x).mod = s.mod ∧ (s.wrap id c x).demod = s.demod ∧ (s.wrap id c x).call = s.call ∧
    (s.wrap id c x).msg = s.msg := by
  simp [State.wrap]

@[simp] theorem State.placeOrWrap_frame (s : State) (id : ImageId) (g : Glyph) (x : Sense) :
    (s.placeOrWrap id g x).pending = s.pending ∧ (s.placeOrWrap id g x).now = s.now ∧
    (s.placeOrWrap id g x).pool = s.pool ∧ (s.placeOrWrap id g x).router = s.router ∧
    (s.placeOrWrap id g x).beeper = s.beeper ∧ (s.placeOrWrap id g x).kbd = s.kbd ∧ (s.placeOrWrap id g x).mod = s.mod ∧
    (s.placeOrWrap id g x).demod = s.demod ∧ (s.placeOrWrap id g x).call = s.call ∧ (s.placeOrWrap id g x).msg = s.msg := by
  have hp := State.place_frame s id g
  unfold State.placeOrWrap
  (repeat' split) <;> simp_all

@[simp] theorem State.takeCr_frame (s : State) (id : ImageId) (x : Sense) :
    (s.takeCr id x).pending = s.pending ∧ (s.takeCr id x).now = s.now ∧ (s.takeCr id x).pool = s.pool ∧
    (s.takeCr id x).router = s.router ∧ (s.takeCr id x).beeper = s.beeper ∧ (s.takeCr id x).kbd = s.kbd ∧
    (s.takeCr id x).mod = s.mod ∧ (s.takeCr id x).demod = s.demod ∧ (s.takeCr id x).call = s.call ∧
    (s.takeCr id x).msg = s.msg := by
  unfold State.takeCr
  dsimp only
  (repeat' split) <;> simp

@[simp] theorem State.takeLf_frame (s : State) (id : ImageId) (x : Sense) :
    (s.takeLf id x).pending = s.pending ∧ (s.takeLf id x).now = s.now ∧ (s.takeLf id x).pool = s.pool ∧
    (s.takeLf id x).router = s.router ∧ (s.takeLf id x).beeper = s.beeper ∧ (s.takeLf id x).kbd = s.kbd ∧
    (s.takeLf id x).mod = s.mod ∧ (s.takeLf id x).demod = s.demod ∧ (s.takeLf id x).call = s.call ∧
    (s.takeLf id x).msg = s.msg := by
  unfold State.takeLf
  (repeat' split) <;> simp

@[simp] theorem State.takeFf_frame (s : State) (id : ImageId) (x : Sense) :
    (s.takeFf id x).pending = s.pending ∧ (s.takeFf id x).now = s.now ∧ (s.takeFf id x).pool = s.pool ∧
    (s.takeFf id x).router = s.router ∧ (s.takeFf id x).beeper = s.beeper ∧ (s.takeFf id x).kbd = s.kbd ∧
    (s.takeFf id x).mod = s.mod ∧ (s.takeFf id x).demod = s.demod ∧ (s.takeFf id x).call = s.call ∧
    (s.takeFf id x).msg = s.msg := by
  simp [State.takeFf]

@[simp] theorem State.takeBs_frame (s : State) :
    s.takeBs.pending = s.pending ∧ s.takeBs.now = s.now ∧ s.takeBs.pool = s.pool ∧ s.takeBs.router = s.router ∧
    s.takeBs.beeper = s.beeper ∧ s.takeBs.kbd = s.kbd ∧ s.takeBs.mod = s.mod ∧ s.takeBs.demod = s.demod ∧
    s.takeBs.call = s.call ∧ s.takeBs.eng = s.eng ∧ s.takeBs.bud = s.bud ∧ s.takeBs.line = s.line ∧ s.takeBs.msg = s.msg ∧
    s.takeBs.pins = s.pins := by
  simp [State.takeBs]

@[simp] theorem State.takeHt_frame (s : State) (id : ImageId) (x : Sense) :
    (s.takeHt id x).pending = s.pending ∧ (s.takeHt id x).now = s.now ∧ (s.takeHt id x).pool = s.pool ∧
    (s.takeHt id x).router = s.router ∧ (s.takeHt id x).beeper = s.beeper ∧ (s.takeHt id x).kbd = s.kbd ∧
    (s.takeHt id x).mod = s.mod ∧ (s.takeHt id x).demod = s.demod ∧ (s.takeHt id x).call = s.call ∧
    (s.takeHt id x).msg = s.msg := by
  unfold State.takeHt
  (repeat' split) <;> simp

@[simp] theorem State.actOn_frame (s : State) (id : ImageId) (a : CellAction) (x : Sense) :
    (s.actOn id a x).pending = s.pending ∧ (s.actOn id a x).now = s.now ∧ (s.actOn id a x).pool = s.pool ∧
    (s.actOn id a x).router = s.router ∧ (s.actOn id a x).kbd = s.kbd ∧ (s.actOn id a x).mod = s.mod ∧
    (s.actOn id a x).demod = s.demod ∧ (s.actOn id a x).call = s.call ∧ (s.actOn id a x).msg = s.msg := by
  unfold State.actOn
  (repeat' split) <;> simp

@[simp] theorem State.handleCell_frame (s : State) (id : ImageId) (c : Cell) (x : Sense) :
    (s.handleCell id c x).pending = s.pending ∧ (s.handleCell id c x).now = s.now ∧ (s.handleCell id c x).pool = s.pool ∧
    (s.handleCell id c x).router = s.router ∧ (s.handleCell id c x).kbd = s.kbd ∧ (s.handleCell id c x).mod = s.mod ∧
    (s.handleCell id c x).demod = s.demod ∧ (s.handleCell id c x).call = s.call ∧ (s.handleCell id c x).msg = s.msg := by
  have hp := State.place_frame s id .lost
  unfold State.handleCell
  (repeat' split) <;> simp_all

@[simp] theorem State.takePrq_frame (s : State) (x : Sense) :
    (s.takePrq x).pending = s.pending ∧ (s.takePrq x).now = s.now ∧ (s.takePrq x).kbd = s.kbd ∧
    (s.takePrq x).demod = s.demod ∧ (s.takePrq x).call = s.call ∧ (s.takePrq x).msg = s.msg := by
  unfold State.takePrq
  dsimp only
  split
  · simp
  · split
    · split
      · simp
      · rename_i h
        simp [State.takeCell_frame _ _ _ _ h]
    · simp

@[simp] theorem State.idleFlush_frame (s : State) (x : Sense) :
    (s.idleFlush x).pending = s.pending ∧ (s.idleFlush x).now = s.now ∧ (s.idleFlush x).pool = s.pool ∧
    (s.idleFlush x).router = s.router ∧ (s.idleFlush x).beeper = s.beeper ∧ (s.idleFlush x).kbd = s.kbd ∧
    (s.idleFlush x).mod = s.mod ∧ (s.idleFlush x).demod = s.demod ∧ (s.idleFlush x).call = s.call ∧
    (s.idleFlush x).msg = s.msg := by
  unfold State.idleFlush
  dsimp only
  (repeat' split) <;> simp

/-! ## The Call Controller -/

@[simp] theorem State.enterDropping_frame (s : State) (c : DropCause) :
    (s.enterDropping c).pending = s.pending ∧ (s.enterDropping c).now = s.now ∧ (s.enterDropping c).beeper = s.beeper ∧
    (s.enterDropping c).kbd = s.kbd ∧ (s.enterDropping c).asm = s.asm ∧ (s.enterDropping c).eng = s.eng ∧
    (s.enterDropping c).bud = s.bud ∧ (s.enterDropping c).msg = s.msg ∧ (s.enterDropping c).pins = s.pins := by
  simp [State.enterDropping]

@[simp] theorem State.silenceEnd_frame (s : State) :
    s.silenceEnd.pending = s.pending ∧ s.silenceEnd.now = s.now ∧ s.silenceEnd.pool = s.pool ∧
    s.silenceEnd.router = s.router ∧ s.silenceEnd.beeper = s.beeper ∧ s.silenceEnd.kbd = s.kbd ∧ s.silenceEnd.mod = s.mod ∧
    s.silenceEnd.demod = s.demod ∧ s.silenceEnd.asm = s.asm ∧ s.silenceEnd.eng = s.eng ∧ s.silenceEnd.bud = s.bud ∧
    s.silenceEnd.line = s.line ∧ s.silenceEnd.msg = s.msg ∧ s.silenceEnd.pins = s.pins := by
  simp [State.silenceEnd]

@[simp] theorem State.enterOnline_frame (s : State) :
    s.enterOnline.pending = s.pending ∧ s.enterOnline.now = s.now ∧ s.enterOnline.beeper = s.beeper ∧
    s.enterOnline.kbd = s.kbd ∧ s.enterOnline.asm = s.asm ∧ s.enterOnline.eng = s.eng ∧ s.enterOnline.bud = s.bud ∧
    s.enterOnline.msg = s.msg ∧ s.enterOnline.pins = s.pins := by
  unfold State.enterOnline
  (repeat' split) <;> simp

@[simp] theorem State.enterFading_frame (s : State) :
    s.enterFading.pending = s.pending ∧ s.enterFading.now = s.now ∧ s.enterFading.router = s.router ∧
    s.enterFading.beeper = s.beeper ∧ s.enterFading.kbd = s.kbd ∧ s.enterFading.mod = s.mod ∧ s.enterFading.asm = s.asm ∧
    s.enterFading.eng = s.eng ∧ s.enterFading.bud = s.bud ∧ s.enterFading.line = s.line ∧ s.enterFading.msg = s.msg ∧
    s.enterFading.pins = s.pins := by
  unfold State.enterFading
  (repeat' split) <;> simp

@[simp] theorem State.carrierReturn_frame (s : State) :
    s.carrierReturn.pending = s.pending ∧ s.carrierReturn.now = s.now ∧ s.carrierReturn.beeper = s.beeper ∧
    s.carrierReturn.kbd = s.kbd ∧ s.carrierReturn.asm = s.asm ∧ s.carrierReturn.eng = s.eng ∧ s.carrierReturn.bud = s.bud ∧
    s.carrierReturn.line = s.line ∧ s.carrierReturn.msg = s.msg ∧ s.carrierReturn.pins = s.pins := by
  simp [State.carrierReturn]

@[simp] theorem State.verdict_frame (s : State) (b : Bool) :
    (s.verdict b).pending = s.pending ∧ (s.verdict b).now = s.now ∧ (s.verdict b).beeper = s.beeper ∧
    (s.verdict b).kbd = s.kbd ∧ (s.verdict b).asm = s.asm ∧ (s.verdict b).eng = s.eng ∧ (s.verdict b).bud = s.bud ∧
    (s.verdict b).msg = s.msg ∧ (s.verdict b).pins = s.pins := by
  unfold State.verdict
  (repeat' split) <;> simp

@[simp] theorem State.windowEnd_frame (s : State) :
    s.windowEnd.pending = s.pending ∧ s.windowEnd.now = s.now ∧ s.windowEnd.beeper = s.beeper ∧ s.windowEnd.kbd = s.kbd ∧
    s.windowEnd.asm = s.asm ∧ s.windowEnd.eng = s.eng ∧ s.windowEnd.bud = s.bud ∧ s.windowEnd.msg = s.msg ∧
    s.windowEnd.pins = s.pins := by
  simp [State.windowEnd]

@[simp] theorem State.askHandset_frame (s : State) :
    s.askHandset.pending = s.pending ∧ s.askHandset.now = s.now ∧ s.askHandset.pool = s.pool ∧
    s.askHandset.router = s.router ∧ s.askHandset.beeper = s.beeper ∧ s.askHandset.kbd = s.kbd ∧ s.askHandset.mod = s.mod ∧
    s.askHandset.demod = s.demod ∧ s.askHandset.call = s.call ∧ s.askHandset.asm = s.asm ∧ s.askHandset.eng = s.eng ∧
    s.askHandset.bud = s.bud ∧ s.askHandset.msg = s.msg ∧ s.askHandset.pins = s.pins := by
  simp [State.askHandset]

@[simp] theorem State.unseat_frame (s : State) :
    s.unseat.pending = s.pending ∧ s.unseat.now = s.now ∧ s.unseat.beeper = s.beeper ∧ s.unseat.kbd = s.kbd ∧
    s.unseat.asm = s.asm ∧ s.unseat.eng = s.eng ∧ s.unseat.bud = s.bud ∧ s.unseat.msg = s.msg ∧ s.unseat.pins = s.pins := by
  unfold State.unseat
  (repeat' split) <;> simp

@[simp] theorem State.unmute_frame (s : State) :
    s.unmute.pending = s.pending ∧ s.unmute.now = s.now ∧ s.unmute.beeper = s.beeper ∧ s.unmute.kbd = s.kbd ∧
    s.unmute.demod = s.demod ∧ s.unmute.asm = s.asm ∧ s.unmute.eng = s.eng ∧ s.unmute.bud = s.bud ∧ s.unmute.msg = s.msg ∧
    s.unmute.pins = s.pins := by
  unfold State.unmute
  (repeat' split) <;> simp

@[simp] theorem State.seat_frame (s : State) :
    s.seat.pending = s.pending ∧ s.seat.now = s.now ∧ s.seat.beeper = s.beeper ∧ s.seat.kbd = s.kbd ∧
    s.seat.demod = s.demod ∧ s.seat.asm = s.asm ∧ s.seat.eng = s.eng ∧ s.seat.bud = s.bud ∧ s.seat.msg = s.msg ∧
    s.seat.pins = s.pins := by
  unfold State.seat
  (repeat' split) <;> simp

@[simp] theorem State.readCups_frame (s : State) (a b : Bool) :
    (s.readCups a b).pending = s.pending ∧ (s.readCups a b).now = s.now ∧ (s.readCups a b).beeper = s.beeper ∧
    (s.readCups a b).kbd = s.kbd ∧ (s.readCups a b).asm = s.asm ∧ (s.readCups a b).eng = s.eng ∧
    (s.readCups a b).bud = s.bud ∧ (s.readCups a b).msg = s.msg := by
  unfold State.readCups
  (repeat' split) <;> simp

@[simp] theorem State.cupReading_frame (s : State) (a b : Bool) :
    (s.cupReading a b).pending = s.pending ∧ (s.cupReading a b).beeper = s.beeper ∧ (s.cupReading a b).kbd = s.kbd ∧
    (s.cupReading a b).asm = s.asm ∧ (s.cupReading a b).eng = s.eng ∧ (s.cupReading a b).bud = s.bud ∧
    (s.cupReading a b).msg = s.msg := by
  unfold State.cupReading
  (repeat' split) <;> simp

@[simp] theorem State.startLoop_frame (s : State) :
    s.startLoop.pending = s.pending ∧ s.startLoop.now = s.now ∧ s.startLoop.pool = s.pool ∧ s.startLoop.router = s.router ∧
    s.startLoop.beeper = s.beeper ∧ s.startLoop.kbd = s.kbd ∧ s.startLoop.asm = s.asm ∧ s.startLoop.eng = s.eng ∧
    s.startLoop.bud = s.bud ∧ s.startLoop.line = s.line ∧ s.startLoop.msg = s.msg ∧ s.startLoop.pins = s.pins := by
  simp [State.startLoop]

@[simp] theorem State.endLoop_frame (s : State) (n k : Nat) (b : Bool) :
    (s.endLoop n k b).pending = s.pending ∧ (s.endLoop n k b).now = s.now ∧ (s.endLoop n k b).pool = s.pool ∧
    (s.endLoop n k b).router = s.router ∧ (s.endLoop n k b).beeper = s.beeper ∧ (s.endLoop n k b).kbd = s.kbd ∧
    (s.endLoop n k b).asm = s.asm ∧ (s.endLoop n k b).eng = s.eng ∧ (s.endLoop n k b).bud = s.bud ∧
    (s.endLoop n k b).msg = s.msg ∧ (s.endLoop n k b).pins = s.pins := by
  unfold State.endLoop
  dsimp only
  (repeat' split) <;> simp

@[simp] theorem State.abortLoop_frame (s : State) :
    s.abortLoop.pending = s.pending ∧ s.abortLoop.now = s.now ∧ s.abortLoop.pool = s.pool ∧ s.abortLoop.router = s.router ∧
    s.abortLoop.beeper = s.beeper ∧ s.abortLoop.kbd = s.kbd ∧ s.abortLoop.asm = s.asm ∧ s.abortLoop.eng = s.eng ∧
    s.abortLoop.bud = s.bud ∧ s.abortLoop.msg = s.msg ∧ s.abortLoop.pins = s.pins := by
  unfold State.abortLoop
  (repeat' split) <;> simp

@[simp] theorem State.placeCall_frame (s : State) (m : Mode) (a : List Byte) :
    ((s.placeCall m a).1).pending = s.pending ∧ ((s.placeCall m a).1).now = s.now ∧ ((s.placeCall m a).1).pool = s.pool ∧
    ((s.placeCall m a).1).router = s.router ∧ ((s.placeCall m a).1).beeper = s.beeper ∧ ((s.placeCall m a).1).kbd = s.kbd ∧
    ((s.placeCall m a).1).asm = s.asm ∧ ((s.placeCall m a).1).eng = s.eng ∧ ((s.placeCall m a).1).bud = s.bud ∧
    ((s.placeCall m a).1).line = s.line ∧ ((s.placeCall m a).1).msg = s.msg ∧ ((s.placeCall m a).1).pins = s.pins := by
  unfold State.placeCall
  cases m <;> ((repeat' split) <;> simp)

@[simp] theorem State.dropRule_frame (s : State) :
    s.dropRule.1.pending = s.pending ∧ s.dropRule.1.now = s.now ∧ s.dropRule.1.beeper = s.beeper ∧
    s.dropRule.1.kbd = s.kbd ∧ s.dropRule.1.asm = s.asm ∧ s.dropRule.1.eng = s.eng ∧ s.dropRule.1.bud = s.bud ∧
    s.dropRule.1.msg = s.msg ∧ s.dropRule.1.pins = s.pins := by
  unfold State.dropRule
  (repeat' split) <;> simp

@[simp] theorem State.breakRule_frame (s : State) :
    s.breakRule.1.pending = s.pending ∧ s.breakRule.1.now = s.now ∧ s.breakRule.1.pool = s.pool ∧
    s.breakRule.1.router = s.router ∧ s.breakRule.1.beeper = s.beeper ∧ s.breakRule.1.kbd = s.kbd ∧
    s.breakRule.1.demod = s.demod ∧ s.breakRule.1.asm = s.asm ∧ s.breakRule.1.eng = s.eng ∧ s.breakRule.1.bud = s.bud ∧
    s.breakRule.1.line = s.line ∧ s.breakRule.1.msg = s.msg ∧ s.breakRule.1.pins = s.pins := by
  unfold State.breakRule
  (repeat' split) <;> simp

@[simp] theorem State.breakKey_frame (s : State) :
    s.breakKey.pending = s.pending ∧ s.breakKey.now = s.now ∧ s.breakKey.pool = s.pool ∧ s.breakKey.router = s.router ∧
    s.breakKey.kbd = s.kbd ∧ s.breakKey.demod = s.demod ∧ s.breakKey.asm = s.asm ∧ s.breakKey.eng = s.eng ∧
    s.breakKey.bud = s.bud ∧ s.breakKey.line = s.line ∧ s.breakKey.msg = s.msg ∧ s.breakKey.pins = s.pins := by
  have hb := State.breakRule_frame s
  unfold State.breakKey
  split <;> simp_all

@[simp] theorem State.loopRule_frame (s : State) :
    s.loopRule.1.pending = s.pending ∧ s.loopRule.1.now = s.now ∧ s.loopRule.1.pool = s.pool ∧
    s.loopRule.1.router = s.router ∧ s.loopRule.1.beeper = s.beeper ∧ s.loopRule.1.kbd = s.kbd ∧ s.loopRule.1.asm = s.asm ∧
    s.loopRule.1.eng = s.eng ∧ s.loopRule.1.bud = s.bud ∧ s.loopRule.1.line = s.line ∧ s.loopRule.1.msg = s.msg ∧
    s.loopRule.1.pins = s.pins := by
  unfold State.loopRule
  (repeat' split) <;> simp

/-! ## The Keyboard Scanner -/

@[simp] theorem State.offerRecord_frame (s : State) (r : KeyRecord) :
    (s.offerRecord r).pending = s.pending ∧ (s.offerRecord r).now = s.now ∧ (s.offerRecord r).pool = s.pool ∧
    (s.offerRecord r).router = s.router ∧ (s.offerRecord r).beeper = s.beeper ∧ (s.offerRecord r).mod = s.mod ∧
    (s.offerRecord r).demod = s.demod ∧ (s.offerRecord r).call = s.call ∧ (s.offerRecord r).asm = s.asm ∧
    (s.offerRecord r).eng = s.eng ∧ (s.offerRecord r).bud = s.bud ∧ (s.offerRecord r).msg = s.msg ∧
    (s.offerRecord r).pins = s.pins := by
  unfold State.offerRecord
  (repeat' split) <;> simp

@[simp] theorem State.specialKey_frame (s : State) (p : Nat) (e : KeyEvent) (x : Sense) :
    (s.specialKey p e x).pending = s.pending ∧ (s.specialKey p e x).now = s.now ∧ (s.specialKey p e x).pool = s.pool ∧
    (s.specialKey p e x).kbd = s.kbd ∧ (s.specialKey p e x).demod = s.demod ∧ (s.specialKey p e x).msg = s.msg := by
  unfold State.specialKey
  (repeat' split) <;> simp

@[simp] theorem State.keyEvent_frame (s : State) (p : Nat) (e : KeyEvent) (x : Sense) :
    (s.keyEvent p e x).pending = s.pending ∧ (s.keyEvent p e x).now = s.now ∧ (s.keyEvent p e x).demod = s.demod ∧
    (s.keyEvent p e x).msg = s.msg := by
  unfold State.keyEvent
  dsimp only
  (repeat' split) <;> simp

@[simp] theorem State.makeCandidate_frame (s : State) (p : Nat) :
    (s.makeCandidate p).pending = s.pending ∧ (s.makeCandidate p).now = s.now ∧ (s.makeCandidate p).pool = s.pool ∧
    (s.makeCandidate p).router = s.router ∧ (s.makeCandidate p).beeper = s.beeper ∧ (s.makeCandidate p).mod = s.mod ∧
    (s.makeCandidate p).demod = s.demod ∧ (s.makeCandidate p).call = s.call ∧ (s.makeCandidate p).asm = s.asm ∧
    (s.makeCandidate p).eng = s.eng ∧ (s.makeCandidate p).bud = s.bud ∧ (s.makeCandidate p).line = s.line ∧
    (s.makeCandidate p).msg = s.msg ∧ (s.makeCandidate p).pins = s.pins := by
  simp [State.makeCandidate]

@[simp] theorem State.repeatNow_frame (s : State) (x : Sense) :
    (s.repeatNow x).pending = s.pending ∧ (s.repeatNow x).now = s.now ∧ (s.repeatNow x).demod = s.demod ∧
    (s.repeatNow x).msg = s.msg := by
  unfold State.repeatNow
  (repeat' split) <;> simp

@[simp] theorem State.keyDown_frame (s : State) (p : Nat) (x : Sense) :
    (s.keyDown p x).pending = s.pending ∧ (s.keyDown p x).now = s.now ∧ (s.keyDown p x).demod = s.demod ∧
    (s.keyDown p x).msg = s.msg := by
  simp [State.keyDown]

@[simp] theorem State.keyUp_frame (s : State) (p : Nat) (x : Sense) :
    (s.keyUp p x).pending = s.pending ∧ (s.keyUp p x).now = s.now ∧ (s.keyUp p x).demod = s.demod ∧
    (s.keyUp p x).msg = s.msg := by
  unfold State.keyUp
  (repeat' split) <;> simp

@[simp] theorem State.judgePress_frame (s : State) (p : Nat) (x : Sense) :
    (s.judgePress p x).pending = s.pending ∧ (s.judgePress p x).now = s.now ∧ (s.judgePress p x).demod = s.demod ∧
    (s.judgePress p x).msg = s.msg := by
  unfold State.judgePress
  (repeat' split) <;> simp

@[simp] theorem State.testBlocked_frame (s : State) (p : Nat) (x : Sense) :
    (s.testBlocked p x).pending = s.pending ∧ (s.testBlocked p x).now = s.now ∧ (s.testBlocked p x).demod = s.demod ∧
    (s.testBlocked p x).msg = s.msg := by
  unfold State.testBlocked
  (repeat' split) <;> simp

@[simp] theorem State.scan_frame (s : State) (k : Matrix) (x : Sense) :
    (s.scan k x).pending = s.pending ∧ (s.scan k x).now = s.now ∧ (s.scan k x).demod = s.demod ∧
    (s.scan k x).msg = s.msg := by
  have key : ∀ (l : List Nat) (g : State → Nat → State) (s : State),
      (∀ s p, (g s p).pending = s.pending ∧ (g s p).now = s.now ∧ (g s p).demod = s.demod ∧ (g s p).msg = s.msg) →
      ((l.foldl g s).pending = s.pending ∧ (l.foldl g s).now = s.now ∧ (l.foldl g s).demod = s.demod ∧ (l.foldl g s).msg = s.msg) := by
    intro l g
    induction l with
    | nil => intro s _; simp
    | cons p l ih => intro s hg; simp [ih _ hg, hg]
  unfold State.scan
  simp [key, State.keyUp_frame, State.testBlocked_frame, State.judgePress_frame]

/-! ## The Line Interface -/

@[simp] theorem State.openWindow_frame (s : State) :
    s.openWindow.pending = s.pending ∧ s.openWindow.now = s.now ∧ s.openWindow.pool = s.pool ∧
    s.openWindow.router = s.router ∧ s.openWindow.beeper = s.beeper ∧ s.openWindow.kbd = s.kbd ∧ s.openWindow.mod = s.mod ∧
    s.openWindow.demod = s.demod ∧ s.openWindow.call = s.call ∧ s.openWindow.asm = s.asm ∧ s.openWindow.eng = s.eng ∧
    s.openWindow.bud = s.bud ∧ s.openWindow.line = s.line ∧ s.openWindow.pins = s.pins := by
  unfold State.openWindow
  (repeat' split) <;> simp

@[simp] theorem State.startAttempt_frame (s : State) (sl : Slot) (b : List Byte) :
    (s.startAttempt sl b).pending = s.pending ∧ (s.startAttempt sl b).now = s.now ∧ (s.startAttempt sl b).pool = s.pool ∧
    (s.startAttempt sl b).router = s.router ∧ (s.startAttempt sl b).beeper = s.beeper ∧ (s.startAttempt sl b).kbd = s.kbd ∧
    (s.startAttempt sl b).mod = s.mod ∧ (s.startAttempt sl b).demod = s.demod ∧ (s.startAttempt sl b).call = s.call ∧
    (s.startAttempt sl b).asm = s.asm ∧ (s.startAttempt sl b).eng = s.eng ∧ (s.startAttempt sl b).bud = s.bud ∧
    (s.startAttempt sl b).msg = s.msg ∧ (s.startAttempt sl b).pins = s.pins := by
  simp [State.startAttempt]

@[simp] theorem State.afterWave_frame (s : State) (w : Wave) :
    (s.afterWave w).pending = s.pending ∧ (s.afterWave w).pool = s.pool ∧ (s.afterWave w).router = s.router ∧
    (s.afterWave w).beeper = s.beeper ∧ (s.afterWave w).kbd = s.kbd ∧ (s.afterWave w).call = s.call ∧
    (s.afterWave w).asm = s.asm ∧ (s.afterWave w).eng = s.eng ∧ (s.afterWave w).bud = s.bud ∧
    (s.afterWave w).msg = s.msg ∧ (s.afterWave w).pins = s.pins := by
  simp [State.afterWave]

@[simp] theorem State.endWait_frame (s : State) (w : Wave) :
    (s.endWait w).pending = s.pending ∧ (s.endWait w).pool = s.pool ∧ (s.endWait w).router = s.router ∧
    (s.endWait w).beeper = s.beeper ∧ (s.endWait w).kbd = s.kbd ∧ (s.endWait w).call = s.call ∧ (s.endWait w).asm = s.asm ∧
    (s.endWait w).eng = s.eng ∧ (s.endWait w).bud = s.bud ∧ (s.endWait w).msg = s.msg ∧ (s.endWait w).pins = s.pins := by
  dsimp only [State.endWait]
  by_cases h : (s.mayStart && (s.hear w).events.isEmpty && (s.hear w).line.waitOver) = true
  · rw [if_pos h]
    (repeat' split) <;> simp
  · rw [if_neg h]
    simp

@[simp] theorem State.removeKeys_frame (s : State) :
    s.removeKeys.pending = s.pending ∧ s.removeKeys.now = s.now ∧ s.removeKeys.pool = s.pool ∧
    s.removeKeys.router = s.router ∧ s.removeKeys.beeper = s.beeper ∧ s.removeKeys.mod = s.mod ∧
    s.removeKeys.demod = s.demod ∧ s.removeKeys.call = s.call ∧ s.removeKeys.asm = s.asm ∧ s.removeKeys.eng = s.eng ∧
    s.removeKeys.bud = s.bud ∧ s.removeKeys.msg = s.msg ∧ s.removeKeys.pins = s.pins := by
  simp [State.removeKeys]

@[simp] theorem State.removeText_frame (s : State) :
    s.removeText.pending = s.pending ∧ s.removeText.now = s.now ∧ s.removeText.beeper = s.beeper ∧
    s.removeText.kbd = s.kbd ∧ s.removeText.demod = s.demod ∧ s.removeText.call = s.call ∧ s.removeText.asm = s.asm ∧
    s.removeText.eng = s.eng ∧ s.removeText.bud = s.bud ∧ s.removeText.msg = s.msg ∧ s.removeText.pins = s.pins := by
  simp [State.removeText]

@[simp] theorem State.removePresent_frame (s : State) :
    s.removePresent.pending = s.pending ∧ s.removePresent.now = s.now ∧ s.removePresent.pool = s.pool ∧
    s.removePresent.router = s.router ∧ s.removePresent.beeper = s.beeper ∧ s.removePresent.kbd = s.kbd ∧
    s.removePresent.mod = s.mod ∧ s.removePresent.demod = s.demod ∧ s.removePresent.call = s.call ∧
    s.removePresent.asm = s.asm ∧ s.removePresent.eng = s.eng ∧ s.removePresent.bud = s.bud ∧
    s.removePresent.pins = s.pins := by
  simp [State.removePresent]

@[simp] theorem State.claimSent_frame (s : State) :
    s.claimSent.pending = s.pending ∧ s.claimSent.now = s.now ∧ s.claimSent.pool = s.pool ∧ s.claimSent.router = s.router ∧
    s.claimSent.beeper = s.beeper ∧ s.claimSent.kbd = s.kbd ∧ s.claimSent.mod = s.mod ∧ s.claimSent.demod = s.demod ∧
    s.claimSent.call = s.call ∧ s.claimSent.asm = s.asm ∧ s.claimSent.eng = s.eng ∧ s.claimSent.msg = s.msg ∧
    s.claimSent.pins = s.pins := by
  unfold State.claimSent
  (repeat' split) <;> simp

@[simp] theorem State.messageSent_frame (s : State) (sl : Slot) :
    (s.messageSent sl).pending = s.pending ∧ (s.messageSent sl).now = s.now ∧ (s.messageSent sl).beeper = s.beeper ∧
    (s.messageSent sl).demod = s.demod ∧ (s.messageSent sl).call = s.call ∧ (s.messageSent sl).asm = s.asm ∧
    (s.messageSent sl).eng = s.eng ∧ (s.messageSent sl).pins = s.pins := by
  unfold State.messageSent
  (repeat' split) <;> simp

@[simp] theorem State.claimFailed_frame (s : State) :
    s.claimFailed.pending = s.pending ∧ s.claimFailed.now = s.now ∧ s.claimFailed.pool = s.pool ∧
    s.claimFailed.router = s.router ∧ s.claimFailed.beeper = s.beeper ∧ s.claimFailed.kbd = s.kbd ∧
    s.claimFailed.mod = s.mod ∧ s.claimFailed.demod = s.demod ∧ s.claimFailed.call = s.call ∧ s.claimFailed.asm = s.asm ∧
    s.claimFailed.eng = s.eng ∧ s.claimFailed.msg = s.msg ∧ s.claimFailed.pins = s.pins := by
  unfold State.claimFailed
  (repeat' split) <;> simp

@[simp] theorem State.messageFailed_frame (s : State) (sl : Slot) :
    (s.messageFailed sl).pending = s.pending ∧ (s.messageFailed sl).now = s.now ∧ (s.messageFailed sl).beeper = s.beeper ∧
    (s.messageFailed sl).demod = s.demod ∧ (s.messageFailed sl).call = s.call ∧ (s.messageFailed sl).asm = s.asm ∧
    (s.messageFailed sl).eng = s.eng ∧ (s.messageFailed sl).pins = s.pins := by
  unfold State.messageFailed
  (repeat' split) <;> simp

@[simp] theorem State.attemptDone_frame (s : State) (a : Attempt) :
    (s.attemptDone a).pending = s.pending ∧ (s.attemptDone a).beeper = s.beeper ∧ (s.attemptDone a).call = s.call ∧
    (s.attemptDone a).asm = s.asm ∧ (s.attemptDone a).eng = s.eng ∧ (s.attemptDone a).pins = s.pins := by
  simp [State.attemptDone]

@[simp] theorem State.attemptFailsLost_frame (s : State) (a : Attempt) (k : Nat) :
    (s.attemptFailsLost a k).pending = s.pending ∧ (s.attemptFailsLost a k).beeper = s.beeper ∧
    (s.attemptFailsLost a k).call = s.call ∧ (s.attemptFailsLost a k).asm = s.asm ∧ (s.attemptFailsLost a k).eng = s.eng ∧
    (s.attemptFailsLost a k).pins = s.pins := by
  simp [State.attemptFailsLost]

@[simp] theorem State.attemptFailsFault_frame (s : State) (a : Attempt) (k : Nat) :
    (s.attemptFailsFault a k).pending = s.pending ∧ (s.attemptFailsFault a k).beeper = s.beeper ∧
    (s.attemptFailsFault a k).call = s.call ∧ (s.attemptFailsFault a k).asm = s.asm ∧
    (s.attemptFailsFault a k).eng = s.eng ∧ (s.attemptFailsFault a k).pins = s.pins := by
  simp [State.attemptFailsFault]

@[simp] theorem State.heard_frame (s : State) (t : Nat) :
    (s.heard t).pending = s.pending ∧ (s.heard t).pool = s.pool ∧ (s.heard t).router = s.router ∧
    (s.heard t).beeper = s.beeper ∧ (s.heard t).kbd = s.kbd ∧ (s.heard t).call = s.call ∧ (s.heard t).asm = s.asm ∧
    (s.heard t).eng = s.eng ∧ (s.heard t).bud = s.bud ∧ (s.heard t).msg = s.msg ∧ (s.heard t).pins = s.pins := by
  simp [State.heard]

@[simp] theorem State.enterListenOnly_frame (s : State) (x : Sense) :
    (s.enterListenOnly x).pending = s.pending ∧ (s.enterListenOnly x).now = s.now ∧
    (s.enterListenOnly x).beeper = s.beeper ∧ (s.enterListenOnly x).demod = s.demod ∧
    (s.enterListenOnly x).call = s.call := by
  unfold State.enterListenOnly
  (repeat' split) <;> simp

/-! ## The Message Unit -/

@[simp] theorem State.buildKeys_frame (s : State) :
    s.buildKeys.pending = s.pending ∧ s.buildKeys.now = s.now ∧ s.buildKeys.pool = s.pool ∧ s.buildKeys.router = s.router ∧
    s.buildKeys.beeper = s.beeper ∧ s.buildKeys.mod = s.mod ∧ s.buildKeys.demod = s.demod ∧ s.buildKeys.call = s.call ∧
    s.buildKeys.asm = s.asm ∧ s.buildKeys.eng = s.eng ∧ s.buildKeys.bud = s.bud ∧ s.buildKeys.pins = s.pins := by
  unfold State.buildKeys
  dsimp only
  (repeat' split) <;> simp

@[simp] theorem State.keysGather_frame (before s : State) :
    (State.keysGather before s).pending = s.pending ∧ (State.keysGather before s).now = s.now ∧
    (State.keysGather before s).pool = s.pool ∧ (State.keysGather before s).router = s.router ∧
    (State.keysGather before s).beeper = s.beeper ∧ (State.keysGather before s).mod = s.mod ∧
    (State.keysGather before s).demod = s.demod ∧ (State.keysGather before s).call = s.call ∧
    (State.keysGather before s).asm = s.asm ∧ (State.keysGather before s).eng = s.eng ∧
    (State.keysGather before s).bud = s.bud ∧ (State.keysGather before s).pins = s.pins := by
  unfold State.keysGather
  (repeat' split) <;> simp

@[simp] theorem State.buildText_frame (s : State) :
    s.buildText.pending = s.pending ∧ s.buildText.now = s.now ∧ s.buildText.router = s.router ∧
    s.buildText.beeper = s.beeper ∧ s.buildText.kbd = s.kbd ∧ s.buildText.mod = s.mod ∧ s.buildText.demod = s.demod ∧
    s.buildText.call = s.call ∧ s.buildText.asm = s.asm ∧ s.buildText.eng = s.eng ∧ s.buildText.bud = s.bud ∧
    s.buildText.pins = s.pins := by
  unfold State.buildText
  dsimp only
  (repeat' split) <;> simp

@[simp] theorem State.textDueNow_frame (s : State) :
    s.textDueNow.pending = s.pending ∧ s.textDueNow.now = s.now ∧ s.textDueNow.pool = s.pool ∧
    s.textDueNow.router = s.router ∧ s.textDueNow.beeper = s.beeper ∧ s.textDueNow.kbd = s.kbd ∧ s.textDueNow.mod = s.mod ∧
    s.textDueNow.demod = s.demod ∧ s.textDueNow.call = s.call ∧ s.textDueNow.asm = s.asm ∧ s.textDueNow.eng = s.eng ∧
    s.textDueNow.bud = s.bud ∧ s.textDueNow.line = s.line ∧ s.textDueNow.pins = s.pins := by
  unfold State.textDueNow
  (repeat' split) <;> simp

@[simp] theorem State.textGather_frame (before s : State) :
    (State.textGather before s).pending = s.pending ∧ (State.textGather before s).now = s.now ∧
    (State.textGather before s).router = s.router ∧ (State.textGather before s).beeper = s.beeper ∧
    (State.textGather before s).kbd = s.kbd ∧ (State.textGather before s).mod = s.mod ∧
    (State.textGather before s).demod = s.demod ∧ (State.textGather before s).call = s.call ∧
    (State.textGather before s).asm = s.asm ∧ (State.textGather before s).eng = s.eng ∧
    (State.textGather before s).bud = s.bud ∧ (State.textGather before s).pins = s.pins := by
  unfold State.textGather
  (repeat' split) <;> simp

@[simp] theorem State.reviewed_frame (before s : State) :
    (State.reviewed before s).pending = s.pending ∧ (State.reviewed before s).now = s.now ∧
    (State.reviewed before s).router = s.router ∧ (State.reviewed before s).beeper = s.beeper ∧
    (State.reviewed before s).mod = s.mod ∧ (State.reviewed before s).demod = s.demod ∧
    (State.reviewed before s).call = s.call ∧ (State.reviewed before s).asm = s.asm ∧
    (State.reviewed before s).eng = s.eng ∧ (State.reviewed before s).pins = s.pins := by
  simp [State.reviewed]

@[simp] theorem State.queueEntry_frame (s : State) (d : Addr) (k : Byte) (b : List Byte) :
    (s.queueEntry d k b).pending = s.pending ∧ (s.queueEntry d k b).now = s.now ∧ (s.queueEntry d k b).pool = s.pool ∧
    (s.queueEntry d k b).router = s.router ∧ (s.queueEntry d k b).beeper = s.beeper ∧ (s.queueEntry d k b).kbd = s.kbd ∧
    (s.queueEntry d k b).mod = s.mod ∧ (s.queueEntry d k b).demod = s.demod ∧ (s.queueEntry d k b).call = s.call ∧
    (s.queueEntry d k b).asm = s.asm ∧ (s.queueEntry d k b).eng = s.eng ∧ (s.queueEntry d k b).bud = s.bud ∧
    (s.queueEntry d k b).msg = s.msg ∧ (s.queueEntry d k b).pins = s.pins := by
  unfold State.queueEntry
  (repeat' split) <;> simp

@[simp] theorem State.reply_frame (s : State) (d : Addr) (k : Byte) (a : Answer) :
    (s.reply d k a).pending = s.pending ∧ (s.reply d k a).now = s.now ∧ (s.reply d k a).pool = s.pool ∧
    (s.reply d k a).router = s.router ∧ (s.reply d k a).beeper = s.beeper ∧ (s.reply d k a).kbd = s.kbd ∧
    (s.reply d k a).mod = s.mod ∧ (s.reply d k a).demod = s.demod ∧ (s.reply d k a).call = s.call ∧
    (s.reply d k a).asm = s.asm ∧ (s.reply d k a).eng = s.eng ∧ (s.reply d k a).bud = s.bud ∧ (s.reply d k a).msg = s.msg ∧
    (s.reply d k a).pins = s.pins := by
  simp [State.reply]

@[simp] theorem State.enterRun_frame (s : State) :
    s.enterRun.pending = s.pending ∧ s.enterRun.now = s.now ∧ s.enterRun.pool = s.pool ∧ s.enterRun.router = s.router ∧
    s.enterRun.beeper = s.beeper ∧ s.enterRun.kbd = s.kbd ∧ s.enterRun.mod = s.mod ∧ s.enterRun.demod = s.demod ∧
    s.enterRun.call = s.call ∧ s.enterRun.asm = s.asm ∧ s.enterRun.eng = s.eng ∧ s.enterRun.bud = s.bud ∧
    s.enterRun.line = s.line ∧ s.enterRun.pins = s.pins := by
  simp [State.enterRun]

@[simp] theorem State.closeWindow_frame (s : State) :
    s.closeWindow.pending = s.pending ∧ s.closeWindow.now = s.now ∧ s.closeWindow.pool = s.pool ∧
    s.closeWindow.router = s.router ∧ s.closeWindow.beeper = s.beeper ∧ s.closeWindow.kbd = s.kbd ∧
    s.closeWindow.mod = s.mod ∧ s.closeWindow.demod = s.demod ∧ s.closeWindow.call = s.call ∧ s.closeWindow.asm = s.asm ∧
    s.closeWindow.eng = s.eng ∧ s.closeWindow.bud = s.bud ∧ s.closeWindow.line = s.line ∧ s.closeWindow.pins = s.pins := by
  simp [State.closeWindow]

@[simp] theorem State.takeSetup_frame (s : State) (r : Setup) :
    (s.takeSetup r).pending = s.pending ∧ (s.takeSetup r).now = s.now ∧ (s.takeSetup r).pool = s.pool ∧
    (s.takeSetup r).beeper = s.beeper ∧ (s.takeSetup r).kbd = s.kbd ∧ (s.takeSetup r).mod = s.mod ∧
    (s.takeSetup r).demod = s.demod ∧ (s.takeSetup r).call = s.call ∧ (s.takeSetup r).eng = s.eng ∧
    (s.takeSetup r).bud = s.bud ∧ (s.takeSetup r).pins = s.pins := by
  simp [State.takeSetup]

@[simp] theorem State.setupRequest_frame (s : State) (d : Addr) (b : List Byte) :
    (s.setupRequest d b).pending = s.pending ∧ (s.setupRequest d b).now = s.now ∧ (s.setupRequest d b).pool = s.pool ∧
    (s.setupRequest d b).beeper = s.beeper ∧ (s.setupRequest d b).kbd = s.kbd ∧ (s.setupRequest d b).mod = s.mod ∧
    (s.setupRequest d b).demod = s.demod ∧ (s.setupRequest d b).call = s.call ∧ (s.setupRequest d b).eng = s.eng ∧
    (s.setupRequest d b).bud = s.bud ∧ (s.setupRequest d b).pins = s.pins := by
  unfold State.setupRequest
  (repeat' split) <;> simp

@[simp] theorem State.routingRule_frame (s : State) (b : List Byte) :
    ((s.routingRule b).1).pending = s.pending ∧ ((s.routingRule b).1).now = s.now ∧
    ((s.routingRule b).1).beeper = s.beeper ∧ ((s.routingRule b).1).kbd = s.kbd ∧ ((s.routingRule b).1).demod = s.demod ∧
    ((s.routingRule b).1).call = s.call ∧ ((s.routingRule b).1).asm = s.asm ∧ ((s.routingRule b).1).eng = s.eng ∧
    ((s.routingRule b).1).bud = s.bud ∧ ((s.routingRule b).1).line = s.line ∧ ((s.routingRule b).1).msg = s.msg ∧
    ((s.routingRule b).1).pins = s.pins := by
  unfold State.routingRule
  (repeat' split) <;> simp

@[simp] theorem State.statusRequest_frame (s : State) (d : Addr) (b : List Byte) :
    (s.statusRequest d b).pending = s.pending ∧ (s.statusRequest d b).now = s.now ∧ (s.statusRequest d b).pool = s.pool ∧
    (s.statusRequest d b).router = s.router ∧ (s.statusRequest d b).beeper = s.beeper ∧ (s.statusRequest d b).kbd = s.kbd ∧
    (s.statusRequest d b).mod = s.mod ∧ (s.statusRequest d b).demod = s.demod ∧ (s.statusRequest d b).call = s.call ∧
    (s.statusRequest d b).asm = s.asm ∧ (s.statusRequest d b).eng = s.eng ∧ (s.statusRequest d b).bud = s.bud ∧
    (s.statusRequest d b).msg = s.msg ∧ (s.statusRequest d b).pins = s.pins := by
  unfold State.statusRequest
  (repeat' split) <;> simp

@[simp] theorem State.dozeRule_frame (s : State) :
    s.dozeRule.1.pending = s.pending ∧ s.dozeRule.1.now = s.now ∧ s.dozeRule.1.pool = s.pool ∧
    s.dozeRule.1.router = s.router ∧ s.dozeRule.1.beeper = s.beeper ∧ s.dozeRule.1.kbd = s.kbd ∧ s.dozeRule.1.mod = s.mod ∧
    s.dozeRule.1.demod = s.demod ∧ s.dozeRule.1.call = s.call ∧ s.dozeRule.1.asm = s.asm ∧ s.dozeRule.1.eng = s.eng ∧
    s.dozeRule.1.pins = s.pins := by
  unfold State.dozeRule
  (repeat' split) <;> simp

@[simp] theorem State.enterDoze_frame (s : State) :
    s.enterDoze.pending = s.pending ∧ s.enterDoze.now = s.now ∧ s.enterDoze.pool = s.pool ∧ s.enterDoze.router = s.router ∧
    s.enterDoze.line = s.line ∧ s.enterDoze.pins = s.pins := by
  simp [State.enterDoze]

@[simp] theorem State.dozeMoment_frame (s : State) :
    s.dozeMoment.pending = s.pending ∧ s.dozeMoment.now = s.now ∧ s.dozeMoment.pool = s.pool ∧
    s.dozeMoment.router = s.router ∧ s.dozeMoment.line = s.line ∧ s.dozeMoment.pins = s.pins := by
  unfold State.dozeMoment
  (repeat' split) <;> simp

@[simp] theorem State.gathersWoken_frame (s : State) :
    s.gathersWoken.pending = s.pending ∧ s.gathersWoken.now = s.now ∧ s.gathersWoken.pool = s.pool ∧
    s.gathersWoken.router = s.router ∧ s.gathersWoken.beeper = s.beeper ∧ s.gathersWoken.kbd = s.kbd ∧
    s.gathersWoken.mod = s.mod ∧ s.gathersWoken.demod = s.demod ∧ s.gathersWoken.call = s.call ∧
    s.gathersWoken.asm = s.asm ∧ s.gathersWoken.eng = s.eng ∧ s.gathersWoken.bud = s.bud ∧ s.gathersWoken.line = s.line ∧
    s.gathersWoken.pins = s.pins := by
  unfold State.gathersWoken
  (repeat' split) <;> simp

@[simp] theorem State.wake_frame (s : State) (x : Sense) :
    (s.wake x).pending = s.pending ∧ (s.wake x).now = s.now ∧ (s.wake x).pool = s.pool ∧ (s.wake x).router = s.router ∧
    (s.wake x).beeper = s.beeper ∧ (s.wake x).mod = s.mod ∧ (s.wake x).demod = s.demod ∧ (s.wake x).asm = s.asm := by
  simp [State.wake]

@[simp] theorem State.dozeCups_frame (s : State) (a b : Bool) :
    ((s.dozeCups a b).1).pending = s.pending ∧ ((s.dozeCups a b).1).now = s.now ∧ ((s.dozeCups a b).1).pool = s.pool ∧
    ((s.dozeCups a b).1).router = s.router ∧ ((s.dozeCups a b).1).beeper = s.beeper ∧ ((s.dozeCups a b).1).kbd = s.kbd ∧
    ((s.dozeCups a b).1).mod = s.mod ∧ ((s.dozeCups a b).1).demod = s.demod ∧ ((s.dozeCups a b).1).asm = s.asm ∧
    ((s.dozeCups a b).1).eng = s.eng ∧ ((s.dozeCups a b).1).bud = s.bud ∧ ((s.dozeCups a b).1).msg = s.msg ∧
    ((s.dozeCups a b).1).pins = s.pins := by
  unfold State.dozeCups
  (repeat' split) <;> simp

@[simp] theorem State.dozeScan_frame (s : State) (k : Matrix) (a b : Bool) (x : Sense) :
    (s.dozeScan k a b x).pending = s.pending ∧ (s.dozeScan k a b x).now = s.now ∧ (s.dozeScan k a b x).pool = s.pool ∧
    (s.dozeScan k a b x).router = s.router ∧ (s.dozeScan k a b x).beeper = s.beeper ∧ (s.dozeScan k a b x).mod = s.mod ∧
    (s.dozeScan k a b x).demod = s.demod ∧ (s.dozeScan k a b x).asm = s.asm := by
  unfold State.dozeScan
  dsimp only
  (repeat' split) <;> simp

@[simp] theorem State.restart_frame (s : State) (x : Sense) :
    (s.restart x).pending = s.pending ∧ (s.restart x).now = s.now := by
  simp [State.restart]

end Sys2Proof.Machine
end

