-- ==== Sys2Proof/Laws/Time.lean ====
section
/-! SUPPORT. What time passing leaves in the two blocks that it touches, and what a message's completion leaves in the Line
Interface. -/

namespace Sys2Proof.Machine

variable (s : State) (t : Nat)

theorem State.advanceTo_now : (s.advanceTo t).now = max s.now t := by
  unfold State.advanceTo
  split <;> simp <;> omega

/-- Time passing writes, of the modulator, its two accumulators, the count of samples within the bit, and the loop test. -/
theorem State.advanceTo_mod :
    (s.advanceTo t).mod = { s.mod with
      phase := (s.advanceTo t).mod.phase, baudAcc := (s.advanceTo t).mod.baudAcc,
      bitSamples := (s.advanceTo t).mod.bitSamples, test := (s.advanceTo t).mod.test } := by
  unfold State.advanceTo
  split <;> rfl

/-- Time passing writes, of the demodulator, the sampler's accumulator and the samples due. -/
theorem State.advanceTo_demod :
    (s.advanceTo t).demod = { s.demod with
      sampler := { s.demod.sampler with
        baudAcc := (s.advanceTo t).demod.sampler.baudAcc, due := (s.advanceTo t).demod.sampler.due } } := by
  unfold State.advanceTo
  split <;> rfl

@[simp] theorem State.advanceTo_mod_st : (s.advanceTo t).mod.st = s.mod.st := by rw [State.advanceTo_mod]
@[simp] theorem State.advanceTo_mod_increment : (s.advanceTo t).mod.increment = s.mod.increment := by rw [State.advanceTo_mod]
@[simp] theorem State.advanceTo_mod_frame : (s.advanceTo t).mod.frame = s.mod.frame := by rw [State.advanceTo_mod]
@[simp] theorem State.advanceTo_mod_breakTimer : (s.advanceTo t).mod.breakTimer = s.mod.breakTimer := by
  rw [State.advanceTo_mod]
@[simp] theorem State.advanceTo_output : (s.advanceTo t).demod.output = s.demod.output := by rw [State.advanceTo_demod]
@[simp] theorem State.advanceTo_lastCrossing : (s.advanceTo t).demod.lastCrossing = s.demod.lastCrossing := by
  rw [State.advanceTo_demod]
@[simp] theorem State.advanceTo_windowCount : (s.advanceTo t).demod.windowCount = s.demod.windowCount := by
  rw [State.advanceTo_demod]
@[simp] theorem State.advanceTo_presentRun : (s.advanceTo t).demod.presentRun = s.demod.presentRun := by
  rw [State.advanceTo_demod]
@[simp] theorem State.advanceTo_absentRun : (s.advanceTo t).demod.absentRun = s.demod.absentRun := by
  rw [State.advanceTo_demod]
@[simp] theorem State.advanceTo_sampler_st : (s.advanceTo t).demod.sampler.st = s.demod.sampler.st := by
  rw [State.advanceTo_demod]

/-- The loop test that time passing leaves is the one before with its accumulator, its events and its crossings moved on. -/
theorem LoopTest.steps_fixed (inc n : Nat) (l : LoopTest) :
    LoopTest.steps inc n l = { l with
      samples := (LoopTest.steps inc n l).samples, phase := (LoopTest.steps inc n l).phase,
      due := (LoopTest.steps inc n l).due } := by
  induction n generalizing l with
  | zero => rfl
  | succ n ih =>
    have h := ih (l.stepOnce inc)
    simp only [LoopTest.steps]
    rw [h]
    rfl

theorem State.advanceTo_test_none (h : s.mod.test = none) : (s.advanceTo t).mod.test = none := by
  unfold State.advanceTo
  split <;> simp [Modulator.advance, h]

theorem State.advanceTo_test_some (l : LoopTest) (h : s.mod.test = some l) :
    ∃ l', (s.advanceTo t).mod.test = some l'
      ∧ l' = { l with samples := l'.samples, phase := l'.phase, due := l'.due } := by
  unfold State.advanceTo
  split
  · exact ⟨l, h, rfl⟩
  · exact ⟨_, by simp [Modulator.advance, h]; rfl, LoopTest.steps_fixed _ _ _⟩

/-- A completed message leaves the Line Interface as it was but for the receiver. -/
theorem State.heard_line :
    (s.heard t).line = { s.line with
      chars := .hunting, message := .waiting, readTo := (s.advanceTo t).now, wireLow := false
      wireSince := (s.advanceTo t).now - s.line.bit / 2 } := by
  simp [State.heard]

theorem State.heard_mod : (s.heard t).mod = (s.advanceTo t).mod := by simp [State.heard]
theorem State.heard_demod : (s.heard t).demod = (s.advanceTo t).demod := by simp [State.heard]
theorem State.heard_now : (s.heard t).now = (s.advanceTo t).now := by simp [State.heard]

@[simp] theorem State.heard_addr : (s.heard t).line.addr = s.line.addr := by rw [State.heard_line]
@[simp] theorem State.heard_replies : (s.heard t).line.replies = s.line.replies := by rw [State.heard_line]
@[simp] theorem State.heard_listenOnly : (s.heard t).line.listenOnly = s.line.listenOnly := by rw [State.heard_line]
@[simp] theorem State.heard_claimSlot : (s.heard t).line.claimSlot = s.line.claimSlot := by rw [State.heard_line]
@[simp] theorem State.heard_attempt : (s.heard t).line.attempt = s.line.attempt := by rw [State.heard_line]
@[simp] theorem State.heard_notices : (s.heard t).line.notices = s.line.notices := by rw [State.heard_line]

end Sys2Proof.Machine
end

