-- ==== Sys2Proof/Laws/Receiver.lean ====
section
/-! SUPPORT. What reading the wire leaves of the Line Interface: everything but the receiver's own fields. -/

namespace Sys2Proof.Machine

/-- The line `l` with the receiver's fields of `r`. -/
def Line.withReceiver (l r : Line) : Line :=
  { l with chars := r.chars, message := r.message, readTo := r.readTo, wireLow := r.wireLow, wireSince := r.wireSince }

@[simp] theorem Line.withReceiver_self (l : Line) : l.withReceiver l = l := rfl
@[simp] theorem Line.withReceiver_twice (l r q : Line) : (l.withReceiver r).withReceiver q = l.withReceiver q := rfl
@[simp] theorem Line.withReceiver_addr (l r : Line) : (l.withReceiver r).addr = l.addr := rfl
@[simp] theorem Line.withReceiver_fast (l r : Line) : (l.withReceiver r).fast = l.fast := rfl
@[simp] theorem Line.withReceiver_bit (l r : Line) : (l.withReceiver r).bit = l.bit := rfl

/-- Only the receiver's fields differ. -/
def Line.Same (l r : Line) : Prop := r = l.withReceiver r

theorem Line.Same.refl (l : Line) : l.Same l := rfl

theorem Line.Same.trans {a b c : Line} (h : a.Same b) (g : b.Same c) : a.Same c := by
  unfold Line.Same at *
  rw [g, h]
  rfl

theorem Hearing.note_line (h : Hearing) (t : Nat) (e : WireEvent) : (h.note t e).line = h.line := rfl

theorem Hearing.drop_line (h : Hearing) (t : Nat) (e : WireEvent) :
    (h.drop t e).line = { h.line with message := .waiting } := by
  unfold Hearing.drop
  dsimp only
  split <;> rfl

theorem Hearing.takeMarker_same (h : Hearing) (doze : Bool) (t : Nat) (head : Byte) :
    h.line.Same (h.takeMarker doze t head).line := by
  unfold Hearing.takeMarker
  cases doze <;> simp only [Bool.false_eq_true, if_true, if_false, Hearing.drop_line, Hearing.note_line] <;> rfl

theorem Hearing.takeNext_same (h : Hearing) (t : Nat) (c : Byte) : h.line.Same (h.takeNext t c).line := by
  unfold Hearing.takeNext
  split
  · rfl
  · dsimp only
    (repeat' split) <;> first | rfl | (rw [Hearing.drop_line]; rfl)

theorem Hearing.readBit_same (h : Hearing) (doze : Bool) (t edge : Nat) (bits : List Bool) (high : Bool) :
    h.line.Same (h.readBit doze t edge bits high).line := by
  unfold Hearing.readBit
  dsimp only
  (repeat' split)
  · rfl
  · rfl
  · exact Line.Same.trans (b := { h.line with chars := .hunting }) rfl
      (Hearing.takeMarker_same { h with line := { h.line with chars := .hunting } } _ _ _)
  · exact Line.Same.trans (b := { h.line with chars := .hunting }) rfl
      (Hearing.takeNext_same { h with line := { h.line with chars := .hunting } } _ _)
  · rw [Hearing.drop_line]; rfl

theorem Hearing.readBits_same (doze high : Bool) (till n : Nat) (h : Hearing) :
    h.line.Same (Hearing.readBits doze high till n h).line := by
  induction n generalizing h with
  | zero => rfl
  | succ n ih =>
    unfold Hearing.readBits
    dsimp only
    (repeat' split) <;> first | rfl | exact Line.Same.trans (Hearing.readBit_same _ _ _ _ _ _) (ih _)

theorem Line.edge_same (l : Line) (high : Bool) : l.Same (l.edge high) := by
  unfold Line.edge
  split <;> rfl

theorem Hearing.count_same (h : Hearing) (till : Nat) : h.line.Same (h.count till).line := by
  unfold Hearing.count
  dsimp only
  (repeat' split) <;> first | rfl | (rw [Hearing.drop_line]; rfl)

theorem Hearing.run_same (doze : Bool) (h : Hearing) (r : WireRun) : h.line.Same (Hearing.run doze h r).line := by
  unfold Hearing.run
  split
  · rfl
  · exact Line.Same.trans (Line.edge_same _ _) (Line.Same.trans
      (Hearing.readBits_same _ _ _ _ { h with line := h.line.edge r.high }) (Line.Same.trans (Hearing.count_same _ _) rfl))

/-- Reading a wave writes of the Line Interface the receiver's own fields alone. -/
theorem Line.hear_same (l : Line) (doze : Bool) (wave : Wave) : l.Same (l.hear doze wave).line := by
  have go : ∀ (h : Hearing), h.line.Same (wave.foldl (Hearing.run doze) h).line := by
    induction wave with
    | nil => exact fun h => rfl
    | cons r rest ih => exact fun h => Line.Same.trans (Hearing.run_same doze h r) (ih _)
  exact go _

theorem State.afterWave_same (s : State) (wave : Wave) : s.line.Same (s.afterWave wave).line := by
  simp only [State.afterWave, State.setLine_line]
  exact Line.hear_same _ _ _

end Sys2Proof.Machine
end

