-- ==== Sys2Proof/Laws/Requests.lean ====
section
/-! SUPPORT. A message that reaches its own rule: what its delivery comes to. -/

namespace Sys2Proof.Machine

/-- A message of another station that the receiver has taken, outside DOZE and with no attempt running, is acted upon. -/
theorem State.delivered_acts (s : State) (m : Moment) (dest src : Addr) (act : State → State)
    (quiet : s.line.attempt = none) (awake : s.msg.op ≠ .doze) (other : src ≠ s.line.addr) :
    s.delivered m dest src act = State.reviewed s (act (s.heard m.t)) := by
  simp [State.delivered, State.taken, quiet, awake, other]

theorem State.Hears.delivered {s : State} {src : Addr} (h : s.Hears src) (m : Moment) (dest : Addr) (act : State → State) :
    s.delivered m dest src act = State.reviewed s (act (s.heard m.t)) :=
  s.delivered_acts m dest src act h.quiet (by simp [h.running]) h.other

/-- A request taken in RUN: its own rule and its reply, or BAD-LENGTH. -/
theorem State.Takes.request {s : State} {src : Addr} (h : s.Takes src) (t : Nat) (kind : Byte) (fits : Bool)
    (rule : State → State × Answer) :
    (s.heard t).request src kind fits rule
      = if fits then (rule (s.heard t)).1.reply src kind (rule (s.heard t)).2
        else (s.heard t).reply src kind (.refused .badLength) := by
  have hr := h.running
  have := h.room
  simp [State.request, State.queueFull, hr, Nat.not_le.2 this]

end Sys2Proof.Machine
end

