-- ==== Sys2Proof/Tests/Slice0.lean ====
section
/-! SUPPORT. The model's own tests: ill-formed commands refused, single steps with the figures of the spec's worked sequences,
and for each statement with hypotheses a concrete state and operands that meet them. -/

namespace Sys2Proof.Tests

open Sys2Proof Sys2Proof.Machine

-- One theorem after another: checks that run side by side would each reserve a thread's stack.
set_option Elab.async false

/-! ## Helpers -/

/-- The state that a command leaves. -/
def after (c : Instr) (s : State) : State :=
  match exec c s with
  | .next t => t
  | _ => s

/-- The states that a list of commands leaves, one after another. -/
def afterAll : List Instr → State → State
  | [], s => s
  | c :: rest, s => afterAll rest (after c s)

/-- Sense readings of the worked case of section 7.11, with paper present and the door closed. -/
def fine : Sense := { vc := 170, tc := 75, paper := true, door := true }

/-- 1000 µs, with the readings of the worked case. -/
def m0 : Moment := { t := 1000, sense := fine }

/-- High wire for the shortest wait, 14 bit times at the higher rate. -/
def idle : Wave := [⟨true, 224⟩]

/-- The part in RUN after reset. -/
def running : State :=
  State.reset.setMsg { State.reset.msg with op := .run, window := .closed, presentTimer := none }

/-- 300 baud, 7 data bits, even parity, 1 stop bit. -/
def fmt : Format := { rate := .b300, data := .sevenEven, stop := .one }

/-- The part in RUN with the cups seated and a call state; the call's parameters are held. -/
def calling (st : CallState) (mode : Mode) : State :=
  running.setCall { running.call with seated := true, st := st, params := some { mode := mode, fmt := fmt } }

/-- ONLINE in originate mode, the modulator in CARRIER. -/
def online : State :=
  (calling .online .originate).setMod { Modulator.reset with st := .carrier, increment := 2601 }

/-- The part in RUN with a call state and without parameters. -/
def resting (st : CallState) : State := running.setCall { running.call with seated := decide (st ≠ .idle), st := st }

/-- A pool with `n` cells in one chain, in the blocks 0, 1, … -/
def poolWith (c : Chain) (n : Nat) : Pool :=
  let block (i k : Nat) : Block := { id := i, cells := List.replicate k { code := 0x41 }, consumed := 0 }
  let blocks := (List.range (n / 16)).map (block · 16) ++ (if n % 16 = 0 then [] else [block (n / 16) (n % 16)])
  (Pool.reset.setChain c blocks).setFree ((List.range 64).drop blocks.length)

/-- The part listening only. -/
def listening : State := running.setLine { running.line with listenOnly := true }

/-- The part in DOZE. -/
def dozing : State :=
  (running.setMsg { running.msg with op := .doze }).setKbd { running.kbd with scanTimer := none, dozeTimer := some 50000 }

/-- A HELD engine with a set of conditions and its cause. -/
def heldBy (h : HoldSet) : State :=
  running.setEng { running.eng with st := .held, holds := h, cause := h.highest, holdCount := 1 }

/-- A dot line at its ADVANCE with one dot on. -/
def oneDot : DotLine :=
  { raw := false, pattern := 1, darkness := 3, dotOhms := 200, motor := 250, dotCurrent := 34, heat := 908, p1 := 545,
    p2 := 136, p3 := 227, budget := 1200, bursts := [], stage := .advance, ends := 2000, halfSteps := 2, starting := false, shifted := false }

/-- A PRINTING engine with a dot line in progress and a run in hand. -/
def printing (d : DotLine) (r : Run) : State :=
  (running.setEng { running.eng with st := .printing, inProgress := some d, run := some r }).setBud
    { running.bud with granted := 1200, own := 1200, completed := 1200 }

/-- An image OPEN in NORMAL width, with glyphs at its first columns. -/
def openImage (gs : List Glyph) : Image :=
  { st := .opened, wide := false, darkness := 3,
    cells := gs.map ImageCell.one ++ List.replicate (80 - gs.length) .empty, blanksAfter := 0, order := 0 }

/-- The part with image 1 OPEN and glyphs in it. -/
def typing (gs : List Glyph) : State :=
  running.setAsm { running.asm with image1 := openImage gs, column := gs.length, flushTimer := some 4000000 }

theorem takes_of {s : State} {src : Addr}
    (h : s.line.attempt = none ∧ s.msg.op = .run ∧ src ≠ s.line.addr ∧ s.line.replies.length < 4) : s.Takes src :=
  { quiet := h.1, running := h.2.1, other := h.2.2.1, room := h.2.2.2 }

theorem hears_of {s : State} {src : Addr} (h : s.line.attempt = none ∧ s.msg.op = .run ∧ src ≠ s.line.addr) :
    s.Hears src := { quiet := h.1, running := h.2.1, other := h.2.2 }

/-! ## Ill-formed commands -/

theorem test_wf_body : Instr.wellFormed (.printText m0 1 (List.replicate 65 0x41)) = false := by decide +kernel
theorem test_wf_body_fits : Instr.wellFormed (.printText m0 1 (List.replicate 64 0x41)) = true := by decide +kernel
theorem test_wf_args : Instr.wellFormed (.hold m0 1 (List.replicate 64 0)) = false := by decide +kernel
theorem test_wf_lost_bit : Instr.wellFormed (.attemptLost 748) = false := by decide
theorem test_wf_fault_bit : Instr.wellFormed (.lineFault 748) = false := by decide
theorem test_wf_cups : Instr.wellFormed (.cupsUnseated true true) = false := by decide
theorem test_wf_wait_wave : Instr.wellFormed (.sendWaitEnd [⟨true, 0⟩]) = false := by decide
theorem test_wf_break_wave : Instr.wellFormed (.wireBreak [⟨false, 384⟩, ⟨true, 0⟩]) = false := by decide
theorem test_wf_message_wave : Instr.wellFormed (.messageReceived [⟨true, 16⟩, ⟨false, 0⟩] fine) = false := by decide
theorem test_wf_rejected_wave : Instr.wellFormed (.messageRejected [⟨false, 0⟩] .framing) = false := by decide
theorem test_wf_doze_wave : Instr.wellFormed (.markerCharacterInDoze [⟨true, 0⟩] fine) = false := by decide
theorem test_wf_wave_fits : Instr.wellFormed (.wireBreak [⟨true, 40⟩, ⟨false, 384⟩]) = true := by decide
theorem test_wf_known_kind : Instr.wellFormed (.unknownKind m0 1 0x16 []) = false := by decide

/-! ## The table's words: no row has bits -/

theorem test_no_word : decodeTableWord 8 0x51 = none := rfl
theorem test_no_fetch : State.reset.withFetchWord 8 0x51 = State.reset := rfl

/-! ## Figures of the worked sequences -/

/-- Section 7.11.2. -/
theorem test_heating_time : heatTime 3 170 75 = 908 ∧ phase1 908 = 545 ∧ phase2 908 = 136 ∧ phase3 908 = 227 := by decide
theorem test_dot_current : dotCurrentOf 170 200 = 34 := by decide

/-- A dot line with the counts of section 7.11.3: 12, 30, 0, 25 and 16, 8, 60, 22 and 5 dots. -/
def workedLine : Dots :=
  span 0 12 ||| span 60 30 ||| span 180 25 ||| span 210 16 ||| span 240 8 ||| span 300 60 ||| span 360 22 ||| span 420 5

theorem test_packing :
    (packLine 34 1200 workedLine).map (fun bs => bs.map fun b => dotsFrom b 0 480 * 34)
      = some [408, 1020, 850, 544, 272, 1020, 1020, 918] := by decide +kernel

/-- Section 10.6: the STATUS QUERY of address 1 for address 5. -/
theorem test_check : messageOf 5 1 0x16 [] = [0x51, 0x16, 0x00, 0x99] := by decide
theorem test_message_valid : messageValid [0x51, 0x16, 0x00, 0x99] = true ∧ messageValid [0x51, 0x16, 0x00, 0x98] = false := by
  decide

/-- Section 6.12: a form feed at form position 10 with 3 committed lines. -/
theorem test_form_feed :
    ((running.setMsg { running.msg with setup := { running.msg.setup with formLength := 66 } }).setAsm
      { running.asm with formPosition := 10, committed := 3 }).formFeedBlanks = 52 := by decide +kernel

/-- Section 4.6.1: the second test character begins at 183.3 ms, in bit time 55 of 3.333 ms. -/
theorem test_first_test_characters : testChar 0 = 0x55 ∧ testChar 1 = 0xAA ∧ testBit 45 = false ∧ testBit 46 = true := by
  decide

/-- Section 3.11: a is position 37, s 38, ; 46 and ' 47. -/
theorem test_key_map :
    [37, 38, 46, 47].map (fun p => (keyAt p).translate false false false) = [some 0x61, some 0x73, some 0x3B, some 0x27] := by
  decide

/-! ## Single steps -/

/-- Section 1.8, step 1: a body of 40 cells takes three blocks. -/
theorem test_print_text :
    ((after (.printText m0 1 (List.replicate 40 0x41)) (resting .idle)).pool.prq.map fun b => (b.cells.length, b.consumed))
      = [(16, 0), (16, 0), (8, 0)]
    ∧ (after (.printText m0 1 (List.replicate 40 0x41)) (resting .idle)).pool.free.length = 61 := by decide +kernel

/-- Section 2.9: one character, two destinations. -/
theorem test_received_both :
    let p := (poolWith .prq 896).putBody .fwq (List.replicate 48 0x41)
    let s := (online.setPool { p with fwqLost := true }).setRouter
      { online.router with routing := { Routing.default with copy := .both } }
    let t := s.routeReceived { code := 0x52, noise := true }
    t.pool.prqLost = true ∧ t.pool.fwqLost = false ∧ t.pool.fwq.length = 4 ∧ t.pool.free.length = 4
      ∧ (chainCells t.pool.fwq).getLast? = some { code := 0x52, noise := true, lostBefore := true }
      ∧ t.router.flow = .pendingStop := by decide +kernel

/-- Section 3.11: the press of a is DOWN at the third scan, and its timer runs 500 ms. -/
theorem test_keyboard_scan :
    let keys : Matrix := 1#72 <<< 37
    let t := afterAll [.keyboardScan keys fine, .keyboardScan keys fine, .keyboardScan keys fine] running
    t.kbd.isDown 37 = true ∧ t.kbd.candidate = some 37 ∧ t.kbd.repeatTimer = some 515000 ∧ t.beeper.sound = .error := by
  decide +kernel

/-- Section 5.11: ORIGINATE is accepted, and the carrier wait runs 30 s. -/
theorem test_originate :
    let t := after (.originate m0 1 [2, 1, 1]) (resting .ready)
    t.call.st = .origWait ∧ t.call.carrierWait = some 30001000 ∧ t.mod.st = .silent
      ∧ (t.line.replies.map ReplyEntry.body) = [[0x13, 0, 0]] := by decide +kernel

/-- Section 5.11: the fifteenth present window takes the call ONLINE with the low-band mark. -/
theorem test_carrier_window :
    let s := (calling .origWait .originate)
    let t := after .carrierWindowEnd (s.setDemod { s.demod with windowTimer := some 10000, windowCount := 44, presentRun := 14 })
    t.call.st = .online ∧ t.mod.st = .carrier ∧ t.mod.increment = 2601 := by decide +kernel

/-- Section 5.12: an open cup in ONLINE mutes the call and starts the unseat timer. -/
theorem test_cups_unseated :
    let t := after (.cupsUnseated false true) online
    t.call.muted = true ∧ t.call.unseat = some 1001000 ∧ t.call.st = .online := by decide +kernel

/-- Section 6.10: T, o, BS, BS, _, _ and CR print "To" underlined. -/
theorem test_overstrike :
    let s := after (.printText m0 1 [0x54, 0x6F, 0x08, 0x08, 0x5F, 0x5F]) running
    let t := afterAll (List.replicate 6 (.takePrqCell m0)) s
    t.asm.column = 2 ∧ t.asm.image1.cells.take 2
      = [.two (.printable 0x54) (.printable 0x5F), .two (.printable 0x6F) (.printable 0x5F)] := by decide +kernel

/-- Section 6.10: a CR closes the image and sets the flag, and the LF behind it is swallowed by the next image. -/
theorem test_cr_lf :
    let s := afterAll (List.replicate 2 (.takePrqCell m0)) (after (.printText m0 1 [0x5F, 0x0D, 0x0A]) running)
    let t := after (.takePrqCell m0) s
    s.asm.image1.st = .waiting ∧ s.asm.crFlag = true ∧ s.asm.column = 0 ∧ s.asm.image2.st = .opened
      ∧ t.asm.crFlag = false ∧ t.asm.image2.st = .opened ∧ t.asm.committed = 1 := by decide +kernel

/-- Section 6.11: the LOST glyph at column 79, and X carried. -/
theorem test_wrap :
    let s := (typing []).setAsm { (typing []).asm with column := 79, image2 := { openImage [] with st := .printing } }
    let t := s.handleCell .one { code := 0x58, lostBefore := true } fine
    t.asm.image1.st = .waiting ∧ t.asm.image1.cells[79]? = some (.one .lost) ∧ t.asm.carried = [.printable 0x58]
      ∧ t.asm.column = 0 := by decide +kernel

/-- Section 8.5: a HOLD during a dot line holds the engine at its end, with count 1. -/
theorem test_hold_at_dot_line_end :
    let s := after (.hold m0 1 []) (printing oneDot { image := some .one, line := 0, dot := 4 })
    let t := after (.dotLineEnd fine) s
    s.eng.st = .printing ∧ t.eng.st = .held ∧ t.eng.cause = some .controllerHold ∧ t.eng.holdCount = 1
      ∧ t.eng.run = some { image := some .one, line := 0, dot := 5 } := by decide +kernel

/-- Section 8.5: PAPER-OUT joins the set without replacing the locked cause. -/
theorem test_watch_sample :
    let t := after (.watchSample { fine with paper := false }) (heldBy { controllerHold := true })
    t.eng.cause = some .controllerHold ∧ t.eng.holds = { controllerHold := true, paperOut := true } ∧ t.line.notices = [] := by
  decide +kernel

/-- The part of section 9.10, ASKING for 1200 mA, with the pack's claim of 100 mA heard. -/
def raising : State :=
  let s := (after (.claim m0 3 [10, 0]) (after (.allowance m0 1 [150, 0, 0]) online))
  let s1 := s.setAsm { s.asm with image1 := { openImage [.error] with st := .waiting } }
  State.reviewed s (s1.setEng { s1.eng with st := .claiming })

/-- Section 9.10, from the raise to the settle. -/
theorem test_raise :
    raising.available = 1330 ∧ raising.bud.raise = .asking 1200 ∧ raising.need = 510
      ∧ raising.line.claimSlot = some { mA := 1200, count := 0, next := none } := by decide +kernel

theorem test_settle :
    let s := after .attemptCompleted (after (.sendWaitEnd idle) raising)
    let t := after (.settleExpiry fine) (after (.claim { m0 with t := s.now + 1400 } 3 [60, 0]) s)
    s.bud.raise = .settling 1200 ∧ s.bud.completed = 1200 ∧ t.bud.granted = 830 ∧ t.bud.own = 830
      ∧ t.line.claimSlot = some { mA := 830, count := 0, next := none } ∧ t.eng.st = .printing := by decide +kernel

/-- Section 10.6: the attempt on the NOTICE is lost at data bit 2, and the receiver holds the winner's bits. -/
def attempting : State :=
  after (.sendWaitEnd idle) (running.setLine { running.line with
    notices := [{ notice := .keyLost, dest := 1, count := 0, changed := false, since := 0 }] })

theorem test_attempt_lost :
    let t := after (.attemptLost 3) attempting
    t.line.chars = .reading attempting.now [false, true, false, false] ∧ t.line.retry = true ∧ t.line.attempt = none
      ∧ t.line.notices.map NoticeEntry.count = [1] ∧ t.now = attempting.now + 56 := by decide +kernel

/-- Section 10.6: the winner's wire from the middle of bit 3 to the middle of its check's stop bit. -/
def winnersWire : Wave :=
  ⟨false, 8⟩ :: (((messageBits [0x51, 0x16, 0x00, 0x99]).drop 4).dropLast.map fun b => ⟨b, 16⟩) ++ [⟨true, 8⟩]

/-- Section 10.6: with the retry flag the wait is 24 bit times, 384 µs of high wire, and the STATUS goes first. -/
theorem test_status_first :
    let s := after (.messageReceived winnersWire fine) (after (.attemptLost 3) attempting)
    (s.line.replies.map fun r => (r.dest, r.kind, r.body.length)) = [(1, 0x24, 42)]
      ∧ s.now = attempting.now + 696
      ∧ (after (.sendWaitEnd [⟨true, 375⟩]) s).line.attempt = none
      ∧ (after (.sendWaitEnd [⟨true, 376⟩]) s).line.attempt.map Attempt.slot = some .reply
      ∧ (after (.sendWaitEnd [⟨true, 376⟩]) s).now = s.line.wireSince + 384 := by decide +kernel

/-- One reply waiting. -/
def attemptingReply : List ReplyEntry := [{ dest := 1, kind := 0x20, body := [0x11, 0, 0], count := 0 }]

/-- R176, R178: a break on the wire, and no attempt until 14 bit times of high wire behind it. -/
theorem test_break :
    let s := after (.wireBreak [⟨false, 384⟩]) (running.setLine { running.line with replies := attemptingReply })
    s.line.chars = .waitHigh ∧ (after (.sendWaitEnd [⟨false, 500⟩]) s).line.attempt = none
      ∧ (after (.sendWaitEnd [⟨false, 500⟩, ⟨true, 223⟩]) s).line.attempt = none
      ∧ (after (.sendWaitEnd [⟨false, 500⟩, ⟨true, 224⟩]) s).line.attempt.map Attempt.slot = some .reply := by decide +kernel

/-- R176: a framing error, where the stop bit of a head is read 0; the low count runs from the marker bit. -/
theorem test_framing_error :
    let wave : Wave := ((charBits true 0x51).take 9).map (fun b => ⟨b, 16⟩)
    let taking := running.setLine { running.line with message := .taking .delivery [0x51] }
    let t := after (.messageRejected (wave ++ [⟨false, 24⟩]) .framing) taking
    t.line.chars = .waitHigh ∧ t.line.message = .waiting ∧ t.line.wireLow = true := by decide +kernel

/-- The wave of a marker character, up to the middle of its stop bit. -/
def markerWave (head : Byte) : Wave := (charBits true head).dropLast.map (fun b => ⟨b, 16⟩) ++ [⟨true, 8⟩]

/-- R194: a marker character for the part's address wakes it from DOZE; one for all stations does not. -/
theorem test_marker_in_doze :
    (after (.markerCharacterInDoze (markerWave 0x51) fine) dozing).msg.op = .run
      ∧ (after (.markerCharacterInDoze (markerWave 0x01) fine) dozing).msg.op = .doze
      ∧ (after (.markerCharacterInDoze (markerWave 0x01) fine) dozing).now = 168 := by decide +kernel

/-- Section 11.8: the low mark 30 gives 24, the high mark 30 gives 32, and the controller is the sender. -/
def setupBody : List Byte :=
  [0, 200, 0, 120, 0, 25, 3, 0, 0x0C, 4, 10, 10, 0x13, 0x11, 30, 30, 30, 40, 0x55, 0x55, 0x09, 0]

theorem test_setup :
    let t := after (.setup m0 1 setupBody) State.reset
    t.msg.op = .run ∧ t.msg.window = .closed ∧ t.msg.setup.lowMark = 24 ∧ t.msg.setup.highMark = 32
      ∧ t.msg.setup.controller = 1 ∧ t.line.replies.map ReplyEntry.body = [[0x10, 1, 0]] := by decide +kernel

theorem test_setup_closed :
    (after (.setup m0 1 setupBody) running).line.replies.map ReplyEntry.body = [[0x10, 3, 7]] := by decide +kernel

/-- Section 11.8: the PRESENT is ready at 50 ms, takes 1056 µs, and opens the window for 2.0 s. -/
theorem test_present :
    let s := after .presentDelayExpiry State.reset
    let t := after .attemptCompleted (after (.sendWaitEnd [⟨true, 50000⟩]) s)
    s.now = 50000 ∧ s.line.presentSlot = some 0 ∧ t.now = 51048 ∧ t.msg.window = .opened ∧ t.msg.windowTimer = some 2051048 := by
  decide +kernel

/-- R46: CTRL with the code 40h to 5Fh gives the code less 40h. -/
theorem test_control_code : (Key.letter 0x61).translate true true false = some 0x01 := by decide

/-- R152, R195: the first byte's most significant bit is position 0. -/
theorem test_raw_pattern : rawPattern (0x80 :: List.replicate 59 0) = 1 := by decide +kernel

/-! ## States and operands that meet the hypotheses of the statements -/

theorem witness_TimePasses :
    State.reset.pending = [] ∧ State.reset.now < 1 ∧ online.now < 1 ∧ online.call.st = .online
      ∧ (resting .loop).now < 1 ∧ (resting .loop).call.st = .loop ∧ running.line.attempt = none
      ∧ attempting.line.attempt.isSome = true ∧ attempting.plineLow = true ∧ 0 ≤ State.reset.now
      ∧ State.reset.now ≤ State.reset.now := by decide +kernel

/-- A command of none of the kinds, run while listen-only. -/
theorem witness_WhoChangesWhat :
    let c : Instr := .soundEnd
    exec c listening = .next listening ∧ c.mayRestart = false ∧ c.readsStraps = false ∧ c.readsCups = false
      ∧ c.setsUp = false ∧ c.routes = false ∧ c.placesCall = false ∧ c.scansKeys = false ∧ c.stagesDarkness = false
      ∧ c.stagesWidth = false ∧ c.stepsMotor = false ∧ c.completesAttempt = false ∧ listening.line.listenOnly = true :=
  ⟨rfl, by decide⟩

/-- An engine CLAIMING with work whose need is met by what may be claimed, and the same with a CLAIM carried by an attempt. -/
def wanting (claim : Option ClaimSlot) : State :=
  let s := raising
  let s1 := (s.setBud { s.bud with raise := .none, own := 0, barrierTimer := none })
  s1.setLine { s1.line with
    claimSlot := claim, attempt := claim.map fun _ => { slot := .claim, bytes := [], started := 0, highSince := 0 } }

/-- R168: a claim held by an idle engine starts the park timer, and its release stops it. -/
theorem test_park :
    let parked := running.setBud { running.bud with own := 600 }
    (State.reviewed running parked).bud.parkTimer = some 1000000
      ∧ (State.reviewed parked running).bud.parkTimer = none := by decide +kernel

theorem witness_EndOfStep :
    let wanted (s : State) := s.bud.raise = .none ∧ s.bud.barrierTimer = none ∧ s.line.listenOnly = false
      ∧ s.msg.op ≠ .doze ∧ s.eng.st = .claiming ∧ 0 < s.desired ∧ s.need ≤ s.desired ∧ s.bud.granted < s.need
    wanted (wanting none) ∧ (wanting none).line.claimSlot = none
      ∧ wanted (wanting (some { mA := 100, count := 1, next := none }))
      ∧ (wanting (some { mA := 100, count := 1, next := none })).line.carrying .claim = true
      ∧ listening.line.listenOnly = true ∧ raising.bud.raise ≠ .none ∧ running.eng.st ≠ .claiming ∧ running.eng.st = .idle
      ∧ running.bud.own = 0 ∧ running.bud.granted = 0
      ∧ (running.setBud { running.bud with own := 600 }).bud.own = 600 := by decide +kernel

theorem poolWith_law : (poolWith .prq 17).Law :=
  { once := by decide +kernel, txq := by decide +kernel, prq := by decide +kernel, fwq := by decide +kernel,
    copied := by decide +kernel }

/-- A tail with room for one cell, a full tail, an empty chain, and a chain at its cap; an empty chain and a chain with cells. -/
theorem witness_CellsStoredAndTaken :
    (∃ b, ((poolWith .prq 15).chain .prq).getLast? = some b ∧ b.cells.length = 15)
      ∧ (∃ b, ((poolWith .prq 16).chain .prq).getLast? = some b ∧ Config.blockCells ≤ b.cells.length)
      ∧ ((poolWith .prq 16).chain .prq).length < Chain.cap .prq ∧ (poolWith .prq 16).free = 1 :: (poolWith .prq 32).free
      ∧ (Pool.reset.chain .prq).getLast? = none
      ∧ (∃ b, ((poolWith .txq 256).chain .txq).getLast? = some b ∧ Config.blockCells ≤ b.cells.length)
      ∧ Chain.cap .txq ≤ ((poolWith .txq 256).chain .txq).length
      ∧ (poolWith .prq 17).Law ∧ (poolWith .prq 17).chain .txq = [] ∧ (poolWith .prq 17).chain .prq ≠ [] := by
  refine ⟨⟨_, rfl, ?_⟩, ⟨_, rfl, ?_⟩, ?_, ?_, ?_, ⟨_, rfl, ?_⟩, ?_, poolWith_law, ?_, ?_⟩ <;> decide +kernel

/-- ONLINE with TXQ at its cap, its tail full. -/
def txqFull : State := online.setPool (poolWith .txq 256)

theorem txqFull_law : txqFull.pool.Law :=
  { once := by decide +kernel, txq := by decide +kernel, prq := by decide +kernel, fwq := by decide +kernel,
    copied := by decide +kernel }

/-- A body that fits the room of the tail and one block, and a body behind a chain at its cap. -/
theorem witness_BodyStoredWhole :
    (poolWith .prq 17).Law ∧ txqFull.pool.Law
      ∧ ((poolWith .prq 17).chain .prq).length + (16 - 15 + 15) / 16 ≤ Chain.cap .prq
      ∧ Chain.cap .txq < (txqFull.pool.chain .txq).length + (1 + 15) / 16 :=
  ⟨poolWith_law, txqFull_law, by decide +kernel, by decide +kernel⟩

/-- A step that takes a cell from a chain of two blocks. -/
theorem witness_PoolLawKept :
    let s := (running.setPool (poolWith .prq 17)).setPending [.takePrqCell m0]
    s.pool.Law ∧ ∃ t, step s = .next t ∧ t.pool.prq ≠ s.pool.prq := by
  exact ⟨poolWith_law, _, rfl, by decide +kernel⟩

/-- ONLINE with the free count at the low mark and the stop code pending. -/
def pressed : State :=
  (online.setPool (poolWith .prq 832)).setRouter { online.router with flow := .pendingStop }

theorem witness_FlowLawKept :
    pressed.FlowGround ∧ pressed.FlowLaw ∧ pressed.pool.free.length = pressed.msg.setup.lowMark
      ∧ pressed.call.st.carrying = true ∧ pressed.msg.setup.flowEnable = true
      ∧ ∃ t, step (pressed.setPending [.characterBoundary]) = .next t :=
  ⟨{ marks := by decide +kernel, start := by decide +kernel, scans := by decide +kernel },
    fun _ _ _ => Or.inl rfl, by decide +kernel, by decide, by decide, _, rfl⟩

/-- A change of the free count in ONLINE, none, and a change outside a call. -/
theorem witness_FlowTable :
    (poolWith .prq 1).free.length ≠ online.pool.free.length ∧ online.call.st = .online
      ∧ online.msg.setup.flowEnable = true ∧ running.call.st ≠ .online ∧ running.call.st ≠ .fading
      ∧ Pool.reset.free.length = online.pool.free.length := by decide +kernel

theorem running_takes : running.Takes 1 := takes_of (by decide +kernel)
theorem online_takes : online.Takes 1 := takes_of (by decide +kernel)

/-- The last code of each set, and one beyond it. -/
theorem witness_RoutingRequest :
    online.Takes 1 ∧ (1 : Byte).toNat ≤ 1 ∧ (2 : Byte).toNat ≤ 2 ∧ 2 < (3 : Byte).toNat ∧ 1 < (2 : Byte).toNat :=
  ⟨online_takes, by decide⟩

/-- A body of 64 cells in an empty pool, and one that takes the free count to the low mark. -/
theorem witness_PrintTextRequest :
    running.Takes 1 ∧ running.pool.Law ∧ (running.setPool (poolWith .prq 17)).Takes 1
      ∧ (running.setPool (poolWith .prq 17)).pool.Law
      ∧ Config.prqCap ≥ running.pool.prq.length + blocksNeeded 64 (tailRoom running.pool.prq)
      ∧ ¬ running.pool.free.length - blocksNeeded 64 (tailRoom running.pool.prq) ≤ running.msg.setup.lowMark
      ∧ (pressed.pool.free.length - blocksNeeded 16 (tailRoom pressed.pool.prq) ≤ pressed.msg.setup.lowMark)
      ∧ pressed.Takes 1 :=
  ⟨running_takes, { once := by decide +kernel, txq := by decide, prq := by decide, fwq := by decide, copied := by decide },
    takes_of (by decide +kernel), poolWith_law, by decide +kernel, by decide +kernel, by decide +kernel,
    takes_of (by decide +kernel)⟩

/-- OFFLINE, a body with room, a body behind a TXQ at its cap, and the echo both ways. -/
theorem witness_SendTextRequest :
    running.Takes 1 ∧ running.call.st ≠ .online ∧ running.call.st ≠ .fading ∧ online.Takes 1 ∧ online.call.st = .online
      ∧ online.pool.Law ∧ txqFull.Takes 1 ∧ txqFull.pool.Law
      ∧ Config.txqCap < txqFull.pool.txq.length + blocksNeeded 1 (tailRoom txqFull.pool.txq)
      ∧ online.router.routing.echo = false ∧ txqFull.pool.storeBody .txq [0x41] = none :=
  ⟨running_takes, by decide, by decide, online_takes, by decide,
    { once := by decide +kernel, txq := by decide, prq := by decide, fwq := by decide, copied := by decide },
    takes_of (by decide +kernel), txqFull_law, by decide +kernel, by decide, by decide +kernel⟩

theorem witness_ReceivedItemRouted :
    ((poolWith .prq 16).store .prq { code := 0x41 }).isSome = true
      ∧ (poolWith .txq 256).store .txq { code := 0x41 } = none := by decide +kernel

/-- A sound that ends, and the four current sounds. -/
theorem witness_SoundTable :
    (running.askSound .click).beeper.ends = some 5000 ∧ (running.askSound .click).beeper.sound = .click
      ∧ (running.askSound .bell).beeper.sound = .bell ∧ (running.askSound .error).beeper.sound = .error
      ∧ running.beeper.sound = .none := by decide +kernel

/-- A scanner with one position whose count is 2 and the others at 0. -/
def almost : State :=
  running.setKbd { running.kbd with keys := running.kbd.keys.modify 71 fun p => { p with count := 2 } }

theorem witness_ScanDebounces :
    almost.kbd.scanTimer = some 5000 ∧ almost.kbd.keys.length = 72
      ∧ almost.kbd.keys[71]? = some { level := false, count := 2, st := .up }
      ∧ almost.kbd.keys[0]? = some { level := false, count := 0, st := .up }
      ∧ (1#72 <<< 71).getLsbD 71 = true ∧ (1#72 <<< 71).getLsbD 0 = false := by decide +kernel

/-- Section 3.11: 37, 38 and 46 DOWN stand at the other corners with 47, and at no rectangle with 71. -/
def threeDown : State :=
  running.setKbd (((running.kbd.setState 37 .down).setState 38 .down).setState 46 .down)

theorem witness_PressJudged :
    (∃ r c, r < 8 ∧ c < 9 ∧ r ≠ 47 / 9 ∧ c ≠ 47 % 9 ∧ threeDown.kbd.isDown (9 * (47 / 9) + c) = true
        ∧ threeDown.kbd.isDown (9 * r + 47 % 9) = true ∧ threeDown.kbd.isDown (9 * r + c) = true)
      ∧ threeDown.kbd.ghost 71 = false ∧ threeDown.kbd.isDown 37 = true ∧ threeDown.kbd.isDown 71 = false
      ∧ threeDown.kbd.candidate ≠ some 37
      ∧ (threeDown.setKbd { threeDown.kbd with candidate := some 37 }).kbd.candidate = some 37 :=
  ⟨⟨4, 1, by decide +kernel⟩, by decide +kernel, by decide +kernel, by decide +kernel, by decide, by decide⟩

/-- A FIFO with 15 records and with 16, the flag set and clear; a repeat timer with its candidate; the ends of the CTRL ranges. -/
def records (n : Nat) : List KeyRecord :=
  List.replicate n { pos := 37, event := .down, shift := false, ctrl := false, caps := false, code := some 0x61, lostBefore := false }

theorem witness_KeyEvents :
    (records 15).length < 16 ∧ 16 ≤ (records 16).length ∧ (running.setKbd { running.kbd with keyLost := true }).kbd.keyLost = true
      ∧ running.kbd.keyLost = false
      ∧ (threeDown.setKbd { threeDown.kbd with repeatTimer := some 500000, candidate := some 37 }).kbd.repeatTimer = some 500000
      ∧ Key.isCharacter .shift = false ∧ ctrlCode 0x40 = some 0 ∧ ctrlCode 0x5F = some 0x1F ∧ ctrlCode 0x60 = none
      ∧ ctrlCode 0x61 = some 1 ∧ ctrlCode 0x7A = some 0x1A ∧ ctrlCode 0x7B = none
      ∧ keyAt 15 = .breakKey ∧ keyAt 33 = .localKey ∧ keyAt 50 = .paperFeed ∧ keyAt 66 = .capsLock
      ∧ (keyAt 37).isSpecial = false ∧ online.call.breakInProgress = false ∧ running.call.st ≠ .online
      ∧ running.eng.st = .idle ∧ running.asm.openId = none ∧ running.eng.holds.any = false ∧ running.eng.inProgress = none
      ∧ (heldBy { stopped := true }).eng.st ≠ .idle := by decide +kernel

/-- R54, R55: LOCAL and PAPER FEED, whole. -/
theorem test_special_keys :
    (running.keyEvent 33 .down fine).router.localMode = true
      ∧ (running.keyEvent 50 .down fine).asm.committed = 1
      ∧ ((heldBy { stopped := true }).keyEvent 50 .down fine).beeper.sound = .error
      ∧ (online.keyEvent 15 .down fine).mod.st = .breakSpace := by decide +kernel

/-- The part with a routing, and with TXQ or PRQ at its cap. -/
def routed (s : State) (r : Routing) (localMode : Bool) (p : Pool) : State :=
  (s.setRouter { s.router with routing := r, localMode := localMode }).setPool p

theorem witness_KeyedCharacter :
    let half : Routing := { Routing.default with duplex := .half }
    let full := poolWith .prq 896
    (routed running .default true Pool.reset).router.localMode = true
      ∧ ((routed running .default true Pool.reset).storeCell .prq { code := 0x61 }).isSome = true
      ∧ (routed running .default true full).storeCell .prq { code := 0x61 } = none
      ∧ (routed running { Routing.default with target := .controller } false Pool.reset).router.routing.target = .controller
      ∧ (routed online half false Pool.reset).call.st = .online ∧ running.call.st = .idle
      ∧ (routed online half false (poolWith .txq 256)).storeCell .txq { code := 0x61 } = none
      ∧ ((routed online half false full).storeCell .txq { code := 0x61 }).isSome = true
      ∧ ((routed online half false full).storeCell .txq { code := 0x61 }).bind (fun v => v.storeCell .prq { code := 0x61 }) = none
      ∧ (((routed online half false Pool.reset).storeCell .txq { code := 0x61 }).bind
          fun v => v.storeCell .prq { code := 0x61 }).isSome = true := by decide +kernel

/-- A KEYS message of eight of sixteen records in its slot, with its attempt. -/
def keysWaiting : State :=
  (running.setKbd { running.kbd with fifo := records 16, inMessage := 8 }).setLine { running.line with
    keysSlot := some { dest := 1, records := records 8, count := 1 }
    attempt := some { slot := .keys, bytes := messageOf 1 5 kindKeys [], started := 0, highSince := 0 }
    notices := [{ notice := .keyLost, dest := 1, count := 0, changed := false, since := 0 }] }

theorem witness_KeyAndQueueLawsKept :
    keysWaiting.KeyLaw ∧ keysWaiting.QueueLaw ∧ ∃ t, step (keysWaiting.setPending [.attemptCompleted]) = .next t :=
  ⟨{ size := by decide, copied := by decide, slot := by decide, records := by intro k h; cases h; decide },
    { replies := by decide, notices := by decide }, _, rfl⟩

/-- The cups at rest, closed while UNSEATED, and opened while SEATED; a key pressed and none. -/
theorem witness_DozeScanRule :
    dozing.kbd.dozeTimer = some 50000 ∧ dozing.call.seated = (false && true)
      ∧ (dozing.setCall { dozing.call with seated := true, st := .ready }).call.seated = true
      ∧ (true && false) = false ∧ (1#72 <<< 71) ≠ 0 := by decide

theorem witness_WakeRule :
    dozing.line.attempt = none ∧ (0x51 : Byte).toNat / 16 = dozing.line.addr.toNat
      ∧ (0x01 : Byte).toNat / 16 ≠ dozing.line.addr.toNat
      ∧ (dozing.hear (markerWave 0x51)).events = [((dozing.hear (markerWave 0x51)).line.readTo, .marker 0x51)]
      ∧ (dozing.hear (markerWave 0x01)).events = [((dozing.hear (markerWave 0x01)).line.readTo, .marker 0x01)] := by
  decide +kernel

/-- The states that listen and those that do not, a first crossing, and half-periods at the ends of each band. -/
def crossed (mode : Mode) (st : SamplerState) : State :=
  let s := calling .online mode
  s.setDemod { s.demod with lastCrossing := some 0, sampler := { Sampler.reset with st := st } }

theorem witness_MicEdgeRule :
    running.call.st = .idle ∧ online.call.st = .online ∧ online.demod.lastCrossing = none
      ∧ (crossed .originate .hunt).hearsHigh = true ∧ (crossed .answer .hunt).hearsHigh = false
      ∧ ([200, 236, 237, 280].map fun t => ((crossed .originate .hunt).advanceTo t).now - 0) = [200, 236, 237, 280]
      ∧ (crossed .originate .hunt).demod.output = true ∧ (crossed .originate .hunt).demod.sampler.st = .hunt
      ∧ ¬ ((crossed .answer .waitMark).demod.sampler.st = .hunt)
      ∧ (crossed .answer .waitMark).demod.lastCrossing = some 0 := by decide +kernel

/-- A window's end, a fifteenth and an earlier present run, the first, second and third absent window, and the third present one
while FADING. -/
def heardRuns (st : CallState) (presents absents : Nat) : State :=
  let s := calling st .originate
  s.setDemod { s.demod with windowTimer := some 10000, presentRun := presents, absentRun := absents }

/-- ONLINE at a third absent window, with a start bit confirmed or not. -/
def assembling (confirmed : Bool) : State :=
  let s := heardRuns .online 0 3
  s.setDemod { s.demod with sampler := { s.demod.sampler with st := .assemble, confirmed := confirmed } }

theorem witness_WindowEndRule :
    (heardRuns .origWait 15 0).demod.windowTimer = some 10000 ∧ (heardRuns .origWait 15 0).demod.presentRun = 15
      ∧ (heardRuns .origWait 14 0).demod.presentRun ≠ 15 ∧ (heardRuns .ansTone 15 0).call.st = .ansTone
      ∧ (heardRuns .ansTone 15 0).call.params = some { mode := .originate, fmt := fmt }
      ∧ (heardRuns .online 0 1).demod.absentRun = 1 ∧ (heardRuns .online 0 2).demod.absentRun = 2
      ∧ (heardRuns .online 0 3).demod.absentRun = 3 ∧ (heardRuns .fading 3 0).demod.presentRun = 3
      ∧ (heardRuns .fading 2 0).demod.presentRun ≠ 3 ∧ (heardRuns .fading 2 0).call.st = .fading
      ∧ (heardRuns .online 0 3).demod.sampler.st = .waitMark ∧ (assembling true).demod.sampler.st = .assemble
      ∧ (assembling true).demod.sampler.confirmed = true ∧ (assembling false).demod.sampler.confirmed = false := by decide

/-- R70: a confirmed start bit at entry to FADING is a character lost to PRQ, the one destination, and an unconfirmed one is not. -/
theorem test_fading_discards :
    ((assembling true).verdict false).pool.prqLost = true ∧ ((assembling true).verdict false).pool.fwqLost = false
      ∧ ((assembling false).verdict false).pool.prqLost = false := by decide +kernel

/-- Each state of the sampler; a break count at and below the threshold; sample 9 of the start, a data and the stop bit. -/
theorem witness_SamplerRule :
    let at9 (bit : Nat) : Sampler := { Sampler.reset with st := .assemble, bit := bit, sample := 8, trio := [true, false] }
    fmt.breakThreshold = 320 ∧ fmt.breakThreshold ≤ 319 + 1 ∧ 318 + 1 < fmt.breakThreshold
      ∧ (at9 0).trio = [true, false] ∧ (at9 0).sample = 8 ∧ (at9 0).breakCount + 1 < fmt.breakThreshold
      ∧ (at9 8).bit ≤ fmt.data.bits + fmt.data.hasParity.toNat ∧ fmt.data.bits + fmt.data.hasParity.toNat < (at9 9).bit
      ∧ Sampler.reset.st = .waitMark
      ∧ ([0, 5, 6, 7, 9, 14, 15].map fun k => { at9 0 with sample := k }.sample) = [0, 5, 6, 7, 9, 14, 15] := by decide

/-- R62, R67: A with even parity has two ones, so a parity bit of 1 is wrong; seven data bits leave bit 7 of the code 0. -/
theorem test_gathered :
    let a : Sampler := { Sampler.reset with bits := [true, false, false, false, false, false, true, true] }
    a.gathered fmt false = { code := 0x41, parity := true, framing := false, noise := false, lostBefore := false } := by decide

/-- A sample that brings nothing, one that delivers, one that finds a break, and one of the loop test. -/
def sampling (st : CallState) (a : Sampler) (output : Bool) : State :=
  let s := (resting st).setCall { (resting st).call with params := some { mode := .originate, fmt := fmt } }
  (s.setDemod { s.demod with output := output, sampler := a }).setMod
    { s.mod with test := if st = .loop then some (LoopTest.mk 0 100 0 0 [] 31 0) else none }

def delivering : Sampler :=
  { Sampler.reset with st := .assemble, due := 1, bit := 10, sample := 8, confirmed := true, trio := [true, true],
                       bits := [true, false, false, false, false, false, true, false, false] }

def breaking : Sampler := { Sampler.reset with st := .hunt, due := 1, breakCount := 319 }

/-- ONLINE at 7 data bits, with a stop code whose top bit is set. -/
def coded : State := online.setMsg { online.msg with setup := { online.msg.setup with stopCode := 0x93, goCode := 0x11 } }

/-- A loop test in its bit time `bit`, with a crossing due. -/
def looping (bit : Nat) : State :=
  (resting .loop).setMod { (resting .loop).mod with
    test := some { started := 0, bit := bit, samples := 0, phase := 0, due := [7], recovered := 0, mismatched := 0 } }

theorem witness_SampleEvents :
    ((sampling .online { Sampler.reset with due := 1 } true).sampleOnce).2 = .nothing
      ∧ (∃ cell, ((sampling .online delivering true).sampleOnce).2 = .char cell)
      ∧ ((sampling .online breaking false).sampleOnce).2 = .lineBreak
      ∧ ((sampling .loop breaking false).sampleOnce).2 ≠ .nothing
      ∧ (∃ l, ((sampling .loop breaking false).sampleOnce).1.mod.test = some l ∧ l.recovered = 31)
      ∧ coded.msg.setup.flowEnable = true ∧ fmt.data ≠ .eight ∧ (0x13 : Byte) = coded.msg.setup.stopCode &&& 0x7F
      ∧ (0x11 : Byte) ≠ coded.msg.setup.stopCode &&& 0x7F ∧ (0x11 : Byte) = coded.msg.setup.goCode &&& 0x7F
      ∧ (coded.receiveItem { code := 0x13 }).router.remoteStopped = true
      ∧ (coded.receiveItem { code := 0x13, parity := true }).router.remoteStopped = false
      ∧ 1 ≤ online.demod.sampler.due + (online.demod.sampler.baudAcc.toNat + (209 - online.now) * 80531) / 2 ^ 24
      ∧ online.demod.sampler.due + (online.demod.sampler.baudAcc.toNat + (208 - online.now) * 80531) / 2 ^ 24 = 0
      ∧ (looping 0).call.st = .loop ∧ online.call.st ≠ .loop :=
  ⟨by decide +kernel, ⟨_, rfl⟩, by decide +kernel, by decide +kernel, ⟨_, rfl, by decide +kernel⟩, by decide, by decide,
    by decide, by decide, by decide, by decide +kernel, by decide +kernel, by decide, by decide, by decide, by decide⟩

/-- A boundary that is not free, a pending code, a stopped remote, an empty TXQ and one with a cell. -/
theorem witness_BoundaryChoice :
    online.call.params = some { mode := .originate, fmt := fmt } ∧ online.call.breakInProgress = false
      ∧ online.call.muted = false ∧ (calling .fading .originate).call.params = some { mode := .originate, fmt := fmt }
      ∧ pressed.router.pendingCode = some .stop ∧ online.router.pendingCode = none ∧ online.router.remoteStopped = false
      ∧ online.takeCell .txq = none ∧ ((online.setPool (poolWith .txq 1)).takeCell .txq).isSome = true
      ∧ (online.setRouter { online.router with remoteStopped := true }).router.remoteStopped = true
      ∧ online.mod.st = .carrier ∧ running.mod.st ≠ .carrier
      ∧ (let r (f : FlowState) (c : Option FlowCode) : Router := { online.router with flow := f, inFlight := c }
         (r .pendingStop none).inFlight ≠ some .stop ∧ (r .pendingStop (some .go)).inFlight ≠ some .stop
           ∧ (r .pendingGo (some .go)).inFlight ≠ none ∧ (r .pendingGo none).flow = .pendingGo) := by decide +kernel

/-- R30, R31: a stop code is pending while a go code is in flight, and not once it is in flight itself. -/
theorem test_pendingCode :
    ({ online.router with flow := .pendingStop, inFlight := some .go } : Router).pendingCode = some .stop
      ∧ ({ online.router with flow := .pendingStop, inFlight := some .stop } : Router).pendingCode = none
      ∧ ({ online.router with flow := .stopped, inFlight := none } : Router).pendingCode = none := by decide

/-- R61: at 300 baud the bit clock steps by 80531 a µs, so a bit begun afresh ends at the 3334th µs. -/
theorem test_bitEnd : online.bitEnd = 3334 ∧ (looping 0).bitEnd = 3334 := by decide

/-- A frame at its start bit and one at its last bit, of a cell and of a flow code, with a break waiting and without. -/
def framing (kind : FrameKind) (bit : Nat) (waiting : Bool) : State :=
  (online.setMod { online.mod with
    st := .character, frame := some { code := 0x41, kind := kind, bits := frameBits fmt 0x41, bit := bit } }).setCall
    { online.call with breakInProgress := waiting }

theorem witness_FrameSent :
    (framing .cell 0 false).mod.test = none ∧ (frameBits fmt 0x41)[0 + 1]? = some true
      ∧ (frameBits fmt 0x41)[8]? = some false ∧ 9 + 1 = (frameBits fmt 0x41).length
      ∧ (framing .cell 9 false).call.breakInProgress = false ∧ (framing (.flow .stop) 9 true).call.breakInProgress = true
      ∧ online.mod.frame = none ∧ online.mod.st = .carrier := by decide

/-- A modulator in the space or the guard of a break. -/
def breakIn (st : ModState) : State :=
  (online.setMod { online.mod with st := st, breakTimer := some 250000 }).setCall { online.call with breakInProgress := true }

theorem witness_BreakSent :
    running.Takes 1 ∧ running.call.st ≠ .online ∧ online.Takes 1 ∧ online.call.st = .online
      ∧ online.call.breakInProgress = false ∧ online.mod.st = .carrier ∧ (breakIn .breakSpace).Takes 1
      ∧ (breakIn .breakSpace).call.breakInProgress = true ∧ (framing .cell 0 false).Takes 1
      ∧ (framing .cell 0 false).mod.st ≠ .carrier ∧ (breakIn .breakSpace).mod.breakTimer = some 250000
      ∧ (breakIn .breakGuard).mod.st = .breakGuard :=
  ⟨running_takes, by decide, online_takes, by decide, by decide, by decide, takes_of (by decide), by decide,
    takes_of (by decide), by decide, by decide, by decide⟩

/-- The loop test as it starts. -/
def startedLoop : State := after (.loopTest m0 1 []) running

/-- R64, R76: in LOOP half-periods are judged in the low band; the test frames begin at bit 45 with 55h. -/
theorem test_loop_crossing :
    let s := (looping 46).setDemod { (looping 46).demod with lastCrossing := some 0 }
    (s.crossing 431).demod.output = false ∧ (s.crossing 430).demod.output = true ∧ (s.crossing 521).demod.windowCount = 0
      ∧ (s.crossing 359).demod.windowCount = 0 ∧ testBit 44 = true ∧ testBit 45 = false ∧ testBit 46 = true
      ∧ testBit 47 = false := by decide +kernel

theorem witness_LoopTestRuns :
    running.Takes 1 ∧ running.call.st = .idle ∧ (resting .ready).Takes 1 ∧ (resting .dropping).Takes 1
      ∧ (looping 0).Takes 1 ∧ (looping 0).call.st = .loop ∧ online.Takes 1
      ∧ (∃ l, (looping 383).mod.test = some l ∧ l.bit < 384 ∧ l.due = 7 :: [])
      ∧ (∃ l, (looping 384).mod.test = some l ∧ l.bit = 384)
      ∧ (∃ l, startedLoop.mod.test = some l ∧ l.due = [] ∧ l.started ≤ startedLoop.now
          ∧ l.samples = toneEvents (startedLoop.now - l.started))
      ∧ startedLoop.mod.increment = 2601 :=
  ⟨running_takes, by decide, takes_of (by decide), takes_of (by decide), takes_of (by decide), by decide, online_takes,
    ⟨_, rfl, by decide, rfl⟩, ⟨_, rfl, rfl⟩, ⟨_, rfl, by decide, by decide, by decide⟩, by decide⟩

/-- R75: the first crossings of a run of mark, at 406 and 812 µs from the start of the test. -/
theorem test_crossings :
    let t := after .testAccumulatorCrossing startedLoop
    t.now = 1406 ∧ t.demod.lastCrossing = some 1406 ∧ (after .testAccumulatorCrossing t).now = 1812 := by decide +kernel

/-- An open reading in each call state, and the filter at 48 and 49. -/
theorem witness_CupsRead :
    ([CallState.ready, .loop, .origWait, .ansTone, .online, .fading, .dropping].all fun st =>
        (calling st .answer).call.seated && decide ((calling st .answer).call.cupTimer = some 1000)) = true
      ∧ running.call.cupTimer = some 1000 ∧ running.call.seated = false ∧ (true && true) = true ∧ (48 : Nat) ≠ 49
      ∧ ((calling .online .answer).setCall { (calling .online .answer).call with
          seated := false, filter := 49, muted := true }).call.filter = 49 := by decide

/-- The last code of each set and one beyond it, in READY; and the other call states. -/
theorem witness_CallPlaced :
    (resting .ready).Takes 1 ∧ (resting .ready).call.st = .ready ∧ rateOf 2 = some .b300 ∧ rateOf 3 = none
      ∧ dataOf 5 = some .eight ∧ dataOf 6 = none ∧ stopOf 2 = some .two ∧ stopOf 3 = none ∧ stopOf 0 = none
      ∧ running.Takes 1 ∧ running.call.st = .idle ∧ (resting .loop).Takes 1 ∧ online.Takes 1 :=
  ⟨takes_of (by decide), by decide, by decide, by decide, by decide, by decide, by decide, by decide, by decide,
    running_takes, by decide, takes_of (by decide), online_takes⟩

theorem witness_CallEnded :
    let ending (st : CallState) := (calling st .answer).setCall { (calling st .answer).call with
      carrierWait := some 30000000, fade := some 400000, unseat := some 1000000, silence := some 1000000 }
    (ending .origWait).call.carrierWait = some 30000000 ∧ (ending .fading).call.fade = some 400000
      ∧ (ending .online).call.unseat = some 1000000 ∧ (ending .dropping).call.silence = some 1000000
      ∧ running.Takes 1 ∧ online.Takes 1 ∧ (looping 100).Takes 1
      ∧ (∃ l, ((looping 100).heard m0.t).mod.test = some l) ∧ (looping 100).call.seated ≠ (looping 100).call.loopSeated :=
  ⟨by decide, by decide, by decide, by decide, running_takes, online_takes, takes_of (by decide),
    Option.isSome_iff_exists.1 (by decide +kernel), by decide⟩

theorem witness_CallLawsKept :
    online.CallLaw ∧ online.TxqLaw ∧ running.TxqLaw
      ∧ ∃ t, step (online.setPending [.cupsUnseated false true]) = .next t ∧ t.call.muted = true :=
  ⟨{ idle := by decide, ready := by decide, params := by decide, muted := by decide, breaking := by decide },
    fun h => absurd h (by decide), fun _ => rfl, _, rfl, by decide +kernel⟩

/-- An OPEN image with PRQ empty, with placements carried and with a cell; no image OPEN with none FREE and with one. -/
theorem witness_PrqCellTaken :
    let full := (typing []).setPool (poolWith .prq 1)
    (typing []).asm.openId = some .one ∧ (typing []).pool.prq = [] ∧ (typing []).asm.carried = []
      ∧ (full.pool.take .prq).isSome = true
      ∧ (full.setAsm { full.asm with carried := [.lost] }).asm.carried ≠ []
      ∧ running.asm.openId = none ∧ running.asm.freeId = some .one
      ∧ ((running.setPool (poolWith .prq 1)).pool.take .prq).isSome = true
      ∧ (let a := { running.asm with
           image1 := { openImage [] with st := .waiting }, image2 := { openImage [] with st := .printing } }
         a.openId = none ∧ a.freeId = none)
      ∧ (let a := { running.asm with image2 := { openImage [] with st := .printing }, carried := [.lost, .error] }
         a.openId = none ∧ a.freeId = some .one ∧ a.carried ≠ [] ∧ a.column + a.carried.length ≤ 80)
      ∧ (running.setPool (poolWith .prq 1)).pool.prq ≠ [] ∧ running.asm.carried = [] ∧ running.pool.prq = []
      ∧ running.asm.column + running.asm.carried.length ≤ 40 := by decide

/-- R102, R105: carried placements are made at the opening, before the cell behind them is taken. -/
theorem test_carried_placed :
    let s := (running.setAsm { running.asm with carried := [.lost, .error] }).setPool (poolWith .prq 1)
    let t := after (.takePrqCell m0) s
    t.asm.image1.cells.take 3 = [.one .lost, .one .error, .one (.printable 0x41)] ∧ t.asm.carried = [] ∧ t.pool.prq = [] := by
  decide +kernel

/-- Columns 0 and 79 within the width and 80 beyond it; columns 71 and 72 before the last tab; each kind of cell. -/
theorem witness_CellsPlaced :
    let s := typing []
    s.asm.truncating = false ∧ 79 < columnsOf (s.asm.image .one).wide ∧ columnsOf (s.asm.image .one).wide ≤ 80
      ∧ 71 / 8 * 8 + 8 ≤ columnsOf (s.asm.image .one).wide ∧ (0x7E : Byte).toNat ≤ 0x7E ∧ 0xA0 ≤ (0xFE : Byte).toNat
      ∧ s.msg.setup.strip = false ∧ (s.asm.image .one).isEmpty = true ∧ (typing [.error]).asm.column ≠ 0
      ∧ ((typing [.error]).asm.image .one).isEmpty = false ∧ s.msg.setup.formLength = 0 ∧ s.asm.crFlag = false
      ∧ s.msg.setup.truncate = false
      ∧ (let full := (typing []).setAsm { (typing []).asm with column := 80 }
         columnsOf (full.asm.image .one).wide ≤ full.asm.column ∧ columnsOf (full.asm.image .one).wide < 80 / 8 * 8 + 8
           ∧ (full.setMsg { full.msg with setup := { full.msg.setup with truncate := true } }).msg.setup.truncate = true
           ∧ (full.setAsm { full.asm with truncating := true }).asm.truncating = true
           ∧ (⟨0x58, false, false, false, true, false⟩ : Cell).lostBefore = true)
      ∧ (openImage [.error]).cells[0]? = some (.one .error) ∧ (openImage [.error]).wide = false
      ∧ { openImage [.error] with wide := true }.wide = true
      ∧ (let stripped := s.setMsg { s.msg with setup := { s.msg.setup with strip := true } }
         stripped.msg.setup.strip = true ∧ 0x80 ≤ (0x80 : Byte).toNat ∧ ((0xFF : Byte) - 0x80) = 0x7F
           ∧ 0x20 ≤ ((0xA0 : Byte) - 0x80).toNat ∧ ((0x9F : Byte) - 0x80).toNat < 0x20)
      ∧ (0x1F : Byte).toNat < 0x20 ∧ (0x1F : Byte) ∉ [(0x07 : Byte), 0x08, 0x09, 0x0A, 0x0C, 0x0D]
      ∧ (0x7F : Byte) ∉ [(0x07 : Byte), 0x08, 0x09, 0x0A, 0x0C, 0x0D] := by decide

/-- R103: under STRIP 8Ah is an LF and FFh is ignored; without it both print the ERROR glyph. -/
theorem test_strip :
    let s := typing []
    let stripped := s.setMsg { s.msg with setup := { s.msg.setup with strip := true } }
    stripped.handleCell .one { code := 0xFF } fine = stripped
      ∧ (stripped.handleCell .one { code := 0x8A } fine).asm.image1.st ≠ .opened
      ∧ (s.handleCell .one { code := 0xFF } fine).asm.image1.cells[0]? = some (.one .error)
      ∧ s.handleCell .one { code := 0x7F } fine = s ∧ s.handleCell .one { code := 0 } fine = s := by decide +kernel

/-- R105: an ERROR glyph beyond the width is carried under WRAP. -/
theorem test_error_wraps :
    let full := (typing []).setAsm { (typing []).asm with column := 80 }
    let wrapped := full.handleCell .one { code := 0x41, parity := true } fine
    wrapped.asm.image1.blanksAfter = 0 ∧ wrapped.asm.image2.cells[0]? = some (.one .error) ∧ wrapped.asm.column = 1 := by
  decide +kernel

/-- No image OPEN, an empty one and one with a glyph; a condition present and none. -/
theorem witness_ImageClosed :
    let flushing := running.setAsm { running.asm with flushTimer := some 4000000 }
    flushing.asm.flushTimer = some 4000000 ∧ flushing.asm.openId = none ∧ (typing []).asm.openId = some .one
      ∧ ((typing []).asm.image .one).isEmpty = true ∧ ((typing [.lost]).asm.image .one).isEmpty = false
      ∧ (typing []).eng.holds.any = false ∧ (typing []).eng.inProgress = none
      ∧ (heldBy { stopped := true }).eng.holds.any = true := by decide

/-- The ends of the range of heating times; a dot line that begins. -/
theorem witness_PhaseFigures :
    phase1 250 = 150 ∧ phase1 2500 = 1500 ∧ phase2 2500 = 375 ∧ phase3 250 = 62 ∧ (1 : Dots) ≠ 0
      ∧ ((running.beginDotLine 1 [1]).eng.inProgress).isSome = true ∧ 140 ≤ fine.vc.toNat ∧ fine.tc.toNat ≤ 100 := by
  decide +kernel

/-- A line packed into bursts, and one of which a quarter draws more than the budget: 15 dots at 34 mA against 509. -/
theorem witness_PackingSound :
    (packLine 34 1200 workedLine).isSome = true ∧ packLine 34 509 workedLine = none
      ∧ 509 < dotsFrom workedLine (15 * 20) 15 * 34 := by decide +kernel

/-- A burst at each stage: with cold dots, with warm dots only, and with hot dots only; a first and a second half-step. -/
theorem witness_DotLinePhases :
    let bursting (stage : Stage) (previous before : Dots) :=
      let s := printing { oneDot with stage := stage, bursts := [3, 4] } { image := some .one, line := 0, dot := 0 }
      s.setEng { s.eng with previous := previous, beforePrevious := before }
    let cold (s : State) := (3 : Dots) &&& ~~~s.eng.previous
    let warm (s : State) := (3 : Dots) &&& ~~~(s.eng.previous &&& s.eng.beforePrevious)
    (bursting .load 0 0).eng.inProgress = some { oneDot with stage := .load, bursts := [3, 4] } ∧ (3 : Dots) ≠ 0
      ∧ warm (bursting .p1 1 0) ≠ 0 ∧ warm (bursting .p1 3 3) = 0 ∧ cold (bursting .p2 1 0) ≠ 0
      ∧ cold (bursting .p2 3 0) = 0 ∧ oneDot.stage = .advance ∧ ({ oneDot with halfSteps := 1 } : DotLine).halfSteps < 2
      ∧ 60 * 7 ≤ 479 ∧ 479 < 60 * 7 + 60 ∧ (1 <<< 479 : Dots).getLsbD 479 = true := by decide +kernel

/-- R130: the last dot of the head is in strobe group 8, and dot 59 in group 1. -/
theorem test_groups : groupsOf (1 <<< 479) = 0x80 ∧ groupsOf (1 <<< 59) = 1 ∧ groupsOf (3 <<< 59) = 3 := by decide +kernel

/-- Dot lines 8 and 9 of the run, with blank lines left and without, of an image and of a PAPER FEED; a raw dot line; a hold asked
for, and work and none behind the dot line. -/
theorem witness_DotLineEnds :
    let s (r : Run) := printing oneDot r
    (s { image := some .one, line := 0, dot := 8 }).eng.inProgress = some oneDot ∧ oneDot.stage = .advance ∧ 2 ≤ oneDot.halfSteps
      ∧ (s { image := some .one, line := 0, dot := 9 }).eng.run = some { image := some .one, line := 0, dot := 9 }
      ∧ (s { image := none, line := 0, dot := 9 }).runBlanks { image := none, line := 0, dot := 9 } = 0
      ∧ (let p := s { image := none, line := 0, dot := 9 }
         p.eng.step = .none ∧ p.eng.holds.any = false ∧ p.eng.holdAsked = false ∧ p.eng.budgetAsked = false
           ∧ ((p.advanceTo 2000).completeDotLine oneDot).1.workExists = false)
      ∧ (let p := s { image := none, line := 0, dot := 8 }
         ((p.advanceTo 2000).completeDotLine oneDot).1.workExists = true)
      ∧ (let p := s { image := some .one, line := 0, dot := 9 }
         let q := p.setAsm { p.asm with image1 := { openImage [.error] with st := .printing, blanksAfter := 1 } }
         0 < q.runBlanks { image := some .one, line := 0, dot := 9 })
      ∧ (s { image := none, line := 0, dot := 8 }).eng.run.isSome = true
      ∧ stepDone (.line false) false true = true ∧ stepDone .dot false true = false := by decide +kernel

/-- The SAMPLE stage with a condition present, with a budget below the motor's current, with one below a packing, and with one that
meets both; the budget lowered on the way, and the history cleared after 100 ms. -/
theorem witness_SampleStage :
    let s (granted : Nat) (g : List Glyph) :=
      let v := raising.setBud { raising.bud with granted := granted }
      v.setAsm { v.asm with image1 := { openImage g with st := .waiting } }
    (s 1200 [.error]).available = 1330 ∧ ((s 1200 [.error]).liveHolds { fine with paper := false }).any = true
      ∧ ((s 1200 [.error]).liveHolds fine).any = false ∧ 240 < (s 1200 [.error]).msg.setup.motor
      ∧ (s 1200 [.error]).msg.setup.motor ≤ 1200
      ∧ ((s 1200 [.error]).sampleStage fine).eng.inProgress.isSome = true
      ∧ ((s 240 [.error]).sampleStage fine).eng.holds.budget = true
      ∧ ((s 250 (List.replicate 30 .lineBreak)).sampleStage fine).eng.holds.budget = true
      ∧ ((s 5000 [.error]).sampleStage fine).bud.granted = 1330
      ∧ (let t := (s 1200 [.error]).setEng { (s 1200 [.error]).eng with previous := 1, lastShift := some 0 }
         ((t.advanceTo 99999).sampleStage fine).eng.previous = 1 ∧ ((t.advanceTo 100000).sampleStage fine).eng.previous = 0) := by
  decide +kernel

/-- An IDLE engine with an image WAITING that has dots. -/
def working : State := running.setAsm { running.asm with image1 := { openImage [.error] with st := .waiting } }

/-- Each limit of the hold tests and the value beside it: 140 and 145 for the supply, 100, 101, 95 and 96 for the head. -/
theorem witness_WatchSampled :
    (heldBy { paperOut := true }).eng.watchTimer = some 50000 ∧ (heldBy { paperOut := true }).eng.holds.any = true
      ∧ running.eng.watchTimer = some 50000 ∧ running.eng.holds.any = false
      ∧ (139 : Byte).toNat * 40 < 5600 ∧ ¬ (140 : Byte).toNat * 40 < 5600 ∧ 5800 ≤ (145 : Byte).toNat * 40
      ∧ ¬ 5800 ≤ (144 : Byte).toNat * 40 ∧ 100 < (101 : Byte).toNat ∧ (95 : Byte).toNat ≤ 95
      ∧ running.workExists = false ∧ working.workExists = true ∧ working.asm.oldestWaiting = some .one
      ∧ working.need = 510 ∧ working.bud.granted = 0 ∧ working.line.listenOnly = false := by decide +kernel

/-- R141: the work test by a budget of 509 and of 510 mA, and while listen-only. -/
theorem test_work :
    let granted (mA : Nat) := working.setBud { working.bud with granted := mA }
    (granted 509).workVerdict = .claiming ∧ (granted 510).workVerdict = .printing
      ∧ ((granted 510).setLine { working.line with listenOnly := true }).workVerdict = .short := by decide +kernel

theorem witness_HoldsApplied :
    running.eng.holds.any = false ∧ running.eng.step = .none ∧ running.eng.st ≠ .held
      ∧ (running.setEng { running.eng with step := .dot }).eng.step ≠ .none
      ∧ HoldSet.highest { doorOpen := true, controllerHold := true } = some .doorOpen
      ∧ (heldBy { controllerHold := true }).eng.cause = some .controllerHold
      ∧ HoldSet.has { paperOut := true, controllerHold := true } .controllerHold = true
      ∧ HoldSet.has { paperOut := true } .controllerHold = false ∧ HoldSet.highest { paperOut := true } = some .paperOut
      ∧ HoldSet.highest {} = none := by decide

/-- R151: PAPER-OUT during a step holds the engine with CONTROLLER-HOLD, which is not the recorded cause. -/
theorem test_step_cut :
    let t := (running.setEng { running.eng with step := .dot }).applyHolds { paperOut := true }
    t.eng.holds = { paperOut := true, controllerHold := true } ∧ t.eng.cause = some .paperOut ∧ t.eng.step = .none := by
  decide

theorem printing_takes : (printing oneDot { image := some .one, line := 0, dot := 4 }).Takes 1 := takes_of (by decide +kernel)

/-- CONTROLLER-HOLD present, asked for and absent; a dot line in progress and none; another condition left behind. -/
theorem witness_HoldResumeStop :
    (heldBy { controllerHold := true }).Takes 1 ∧ (heldBy { controllerHold := true }).eng.holds.controllerHold = true
      ∧ running.Takes 1 ∧ running.eng.inProgress = none ∧ running.eng.holds.controllerHold = false
      ∧ running.eng.holdAsked = false ∧ running.eng.step = .none
      ∧ (printing oneDot { image := some .one, line := 0, dot := 4 }).Takes 1
      ∧ (printing oneDot { image := some .one, line := 0, dot := 4 }).eng.inProgress = some oneDot
      ∧ (heldBy { stopped := true, doorOpen := true }).Takes 1
      ∧ (heldBy { stopped := true, doorOpen := true }).eng.holds.stopped = true
      ∧ (printing { oneDot with halfSteps := 0, starting := true } { image := some .one, line := 0, dot := 4 }).Takes 1
      ∧ (let left (n : Nat) := running.setEng { running.eng with stoppedLine := some { oneDot with halfSteps := n } }
         (left 1).eng.stoppedLine ≠ none ∧ 1 < 2 ∧ (left 2).eng.stoppedLine ≠ none ∧ (left 1).msg.setup.motor ≤ 1200
           ∧ (left 1).bud.granted < (left 1).msg.setup.motor) :=
  ⟨takes_of (by decide), by decide, running_takes, by decide, by decide, by decide, by decide, printing_takes, by decide +kernel,
    takes_of (by decide), by decide, takes_of (by decide +kernel), by decide⟩

/-- R135: STOP NOW at the end of a dot line's last phase, where the first half-step begins at that moment: one is left. -/
theorem test_stop_at_half_step :
    let s := printing { oneDot with halfSteps := 0, starting := true } { image := some .one, line := 0, dot := 4 }
    let t := after (.stopNow { m0 with t := 2000 } 1 []) s
    t.eng.stoppedLine.map (fun d => (d.halfSteps, d.shifted)) = some (1, true) ∧ t.eng.motorPhase = s.eng.motorPhase + 1 := by
  decide +kernel

/-- CONTROLLER-HOLD alone with work and without, and with another condition. -/
theorem witness_StepAndRaw :
    let alone := heldBy { controllerHold := true }
    let withWork := alone.setEng { alone.eng with run := some { image := some .one, line := 0, dot := 7 } }
    alone.Takes 1 ∧ withWork.Takes 1 ∧ (List.replicate 60 (0x80 : Byte)).length = 60
      ∧ alone.eng.holds = { controllerHold := true } ∧ alone.workExists = false ∧ withWork.workExists = true
      ∧ alone.eng.stoppedLine = none ∧ alone.eng.rawWaiting = none
      ∧ (heldBy { controllerHold := true, doorOpen := true }).Takes 1
      ∧ (heldBy { controllerHold := true, doorOpen := true }).eng.holds ≠ { controllerHold := true } :=
  ⟨takes_of (by decide), takes_of (by decide), by decide, by decide +kernel, by decide +kernel, by decide +kernel,
    by decide, by decide, takes_of (by decide), by decide +kernel⟩

/-- The last value of each range and one beyond it. -/
theorem witness_StagedValues : running.Takes 1 ∧ (7 : Byte).toNat ≤ 7 ∧ ¬ (8 : Byte).toNat ≤ 7 ∧ (2 : Byte) ≠ 1 :=
  ⟨running_takes, by decide⟩

theorem witness_HeldLawKept :
    (heldBy { controllerHold := true }).HeldLaw
      ∧ ∃ t, step ((heldBy { controllerHold := true }).setPending [.resume m0 1 []]) = .next t ∧ t.eng.cause = none :=
  ⟨{ held := by decide +kernel, none_ := by decide +kernel, present := by decide +kernel }, _, rfl, by decide +kernel⟩

/-- A record at age 29 and at 30, from the same source and another, at and above a value; each battery code and one beyond. -/
theorem witness_BudgetHeard :
    let noted (age : Nat) := running.setBud { running.bud with
      record := some { mA := 400, battery := .normal, source := 1, age := age }
      table := [{ addr := 3, mA := 100, age := 24 }] }
    State.reset.line.attempt = none ∧ State.reset.msg.op = .start ∧ (1 : Addr) ≠ State.reset.line.addr
      ∧ (noted 29).Hears 1 ∧ (noted 29).Hears 2 ∧ running.bud.record = none ∧ batteryOf 2 = some .critical ∧ 2 < (3 : Byte).toNat
      ∧ min 5000 (10 * ((40 : Byte).toNat + 256 * (0 : Byte).toNat)) = 400
      ∧ min 5000 (10 * ((39 : Byte).toNat + 256 * (0 : Byte).toNat)) < 400
      ∧ min 5000 (10 * ((0xFF : Byte).toNat + 256 * (0xFF : Byte).toNat)) = 5000
      ∧ (noted 29).bud.table.filter (fun e => e.addr ≠ 3) ≠ (noted 29).bud.table
      ∧ (noted 29).bud.table.filter (fun e => e.addr ≠ 2) = (noted 29).bud.table
      ∧ (noted 29).Hears 0 ∧ (noted 29).Hears 15 ∧ (noted 29).bud.tickTimer = some 100000 :=
  ⟨by decide, by decide, by decide, hears_of (by decide), hears_of (by decide), by decide, by decide, by decide, by decide,
    by decide, by decide, by decide, by decide, hears_of (by decide), hears_of (by decide), by decide⟩

/-- Each timer running; a settle that meets the need, and ones that do not. -/
theorem witness_BudgetTimers :
    let settling := after .attemptCompleted (after (.sendWaitEnd idle) raising)
    let timed := running.setBud { running.bud with
      barrierTimer := some 500000, restateTimer := some 1000000, parkTimer := some 1000000, own := 600 }
    settling.bud.raise = .settling 1200 ∧ settling.bud.settleTimer.isSome = true ∧ 1200 ≤ settling.available
      ∧ settling.need ≤ 1200 ∧ running.available < 1200 ∧ running.available / 10 * 10 < 510
      ∧ timed.bud.barrierTimer = some 500000 ∧ timed.bud.restateTimer = some 1000000 ∧ timed.line.claimSlot = none
      ∧ timed.bud.raise = .none ∧ timed.bud.own ≠ 0 ∧ timed.bud.parkTimer = some 1000000 ∧ running.bud.own = 0
      ∧ ({ timed.bud with own := 0 } : Budget).own = 0 ∧ ({ timed.bud with own := 0 } : Budget).restateTimer = some 1000000
      ∧ raising.line.claimSlot ≠ none
      ∧ (printing oneDot { image := none, line := 0, dot := 0 }).eng.inProgress = some oneDot
      ∧ running.eng.inProgress = none ∧ running.eng.stoppedLine = none ∧ running.eng.rawWaiting = none ∧ running.eng.run = none
      ∧ running.asm.oldestWaiting = none ∧ working.asm.oldestWaiting = some .one ∧ running.eng.holds.any = false
      ∧ (heldBy { budget := true }).eng.holds.any = true ∧ (wanting none).eng.st = .claiming
      ∧ (wanting none).bud.granted < (wanting none).need ∧ running.bud.record = none
      ∧ raising.bud.record.map Allowance.age = some 0 ∧ settling.bud.granted ≠ 1200
      ∧ (let carried := after (.sendWaitEnd idle) raising
         carried.line.claimSlot ≠ none ∧ carried.line.attempt.map Attempt.slot = some .claim) := by decide +kernel

/-- R182: a value handed while an attempt carries an earlier one waits behind it. -/
theorem test_handed_behind :
    let carried := after (.sendWaitEnd idle) raising
    (carried.handClaim 300).line.claimSlot = some { mA := 1200, count := 1, next := some 300 }
      ∧ (carried.handClaim 300).bud.own = 300 := by decide +kernel

/-- R160: a fresh 1200 mA of a LOW battery, neighbours of 600 mA and the carrier load: 530 mA available under a ceiling of 600. -/
theorem test_figures :
    let s := online.setBud { online.bud with
      record := some { mA := 1200, battery := .low, source := 1, age := 29 }, table := [{ addr := 3, mA := 600, age := 0 }] }
    s.fixedLoad = 70 ∧ s.available = 530 ∧ s.ceiling = 600 ∧ s.desired = 530 ∧ running.desired = 360 := by decide

theorem witness_ClaimLawsKept :
    raising.ClaimLaw ∧ raising.TableLaw ∧ raising.bud.table ≠ [] ∧ ∃ t, step (raising.setPending [.claim m0 3 [60, 0]]) = .next t :=
  ⟨{ completed := by decide +kernel, own := by decide +kernel
     slot := by
      intro c h
      have : c = { mA := 1200, count := 0, next := none } := by
        have e : raising.line.claimSlot = some { mA := 1200, count := 0, next := none } := by decide +kernel
        rw [e] at h
        exact (Option.some.inj h).symm
      subst this
      exact ⟨by decide +kernel, by intro v hv; cases hv⟩
     asking := by
      intro v h
      have : v = 1200 := by
        have e : raising.bud.raise = .asking 1200 := by decide +kernel
        rw [e] at h
        exact (Raise.asking.inj h).symm
      subst this
      exact ⟨by decide +kernel, { mA := 1200, count := 0, next := none }, by decide +kernel, rfl⟩ },
    { once := by decide +kernel, entries := by decide +kernel }, by decide +kernel, _, rfl⟩

/-- Each slot ready in its place, no slot, and each reason to wait. -/
theorem witness_AttemptStarts :
    raising.readySlot = some .claim ∧ (raising.line.slotMessage .claim).isSome = true ∧ raising.line.attempt = none
      ∧ raising.line.listenOnly = false ∧ raising.msg.op ≠ .doze ∧ running.readySlot = none ∧ attempting.line.attempt ≠ none
      ∧ dozing.msg.op = .doze ∧ listening.line.listenOnly = true ∧ attempting.readySlot = some .notice
      ∧ keysWaiting.line.claimSlot = none ∧ keysWaiting.line.replies = [] ∧ keysWaiting.line.keysSlot ≠ none
      ∧ (raising.hear idle).events = [] ∧ (raising.hear idle).line.wireLow = false
      ∧ (raising.hear idle).line.wireSince + 14 * 16 ≤ (raising.hear idle).line.readTo
      ∧ (raising.hear [⟨false, 500⟩]).line.wireLow = true
      ∧ raising.line.claimSlot = some { mA := 1200, count := 0, next := none } ∧ attemptingReply ≠ []
      ∧ keysWaiting.line.keysSlot.map KeysMessage.records = some (records 8) ∧ attempting.line.notices.length = 1
      ∧ attemptingReply.head?.isSome = true := by decide +kernel

/-- R174, R195: a CLAIM of 1200 mA, a KEY-LOST for address 1 and the PRESENT of address 5, whole. -/
theorem test_messages :
    raising.line.slotMessage .claim = some [0x05, 0x03, 2, 0x78, 0, 0x7E]
      ∧ attempting.line.slotMessage .notice = some [0x15, 0x23, 1, 9, 0xBE]
      ∧ ({ running.line with presentSlot := some 0 } : Line).slotMessage .present = some [0x05, 0x01, 2, 4, 1, 0xF3] := by
  decide +kernel

/-- A notice whose kind is OFF, ALL and CONTROLLER; one of its kind queued behind another and at the head, carried and not, at
254 and at 255 breaks. -/
theorem witness_NoticeQueue :
    let queued (k : Nat) : List NoticeEntry :=
      [{ notice := .breakReceived k, dest := 1, count := 1, changed := false, since := 0 }]
    let carrying (k : Nat) := running.setLine { running.line with
      notices := queued k, attempt := some { slot := .notice, bytes := [], started := 0, highSince := 0 } }
    let routes (d : NoticeRoute) := running.setMsg { running.msg with setup := { running.msg.setup with
      routes := List.replicate 10 d } }
    (routes .off).msg.setup.route NoticeKind.keyLost = .off ∧ (routes .all).msg.setup.route NoticeKind.keyLost = .all
      ∧ (routes .controller).msg.setup.route NoticeKind.keyLost = .controller
      ∧ ((carrying 254).askNotice (.breakReceived 1)).line.notices.map (fun e => (e.notice, e.changed, e.since))
          = [(.breakReceived 255, true, 1)]
      ∧ ((carrying 255).askNotice (.breakReceived 1)).line.notices.map (fun e => (e.notice, e.changed, e.since))
          = [(.breakReceived 255, false, 0)]
      ∧ ((carrying 1).askNotice .keyLost).line.notices.length = 2 := by decide +kernel

/-- A released and a driven bit of the head; a reply at its fifteenth and its sixteenth attempt. -/
theorem witness_AttemptEnds :
    (∃ a, attempting.line.attempt = some a ∧ (messageBits a.bytes)[3]? = some true ∧ (messageBits a.bytes)[0]? = some false)
      ∧ (∃ a, attempting.line.attempt = some a ∧ (messageBits a.bytes)[10]? = some true) :=
  ⟨⟨_, rfl, by decide +kernel, by decide +kernel⟩, ⟨_, rfl, by decide +kernel⟩⟩

/-- A CLAIM at its fifteenth and its sixteenth attempt, with a value behind it and without, in a raise and in none; a changed
notice, one with breaks, and the text of a slot. -/
theorem witness_OwnersTold :
    let claiming (n : Nat) (next : Option Nat) := raising.setLine { raising.line with
      claimSlot := some { mA := 1200, count := n, next := next } }
    let changed (n : Notice) := running.setLine { running.line with
      notices := [{ notice := n, dest := 1, count := 1, changed := true, since := 2 }] }
    (claiming 15 none).bud.raise = .asking 1200 ∧ ((claiming 15 none).messageFailed .claim).line.claimSlot.isSome = true
      ∧ ((claiming 16 none).messageFailed .claim).line.claimSlot = none
      ∧ ((claiming 16 none).messageFailed .claim).bud.raise = .none
      ∧ ((claiming 16 (some 600)).messageFailed .claim).line.claimSlot = some { mA := 600, count := 0, next := none }
      ∧ ((claiming 1 none).messageSent .claim).bud.raise = .settling 1200
      ∧ ((claiming 1 (some 600)).messageSent .claim).bud.raise = .asking 1200 ∧ running.bud.raise = .none
      ∧ ((changed (.breakReceived 9)).messageSent .notice).line.notices.map NoticeEntry.notice = [.breakReceived 2]
      ∧ ((changed .keyLost).messageSent .notice).line.notices.map NoticeEntry.notice = [.keyLost]
      ∧ State.reset.msg.window = .waitingPresent ∧ running.msg.window ≠ .waitingPresent := by decide +kernel

/-- A break, an idle wire that discards a message, and a wave that brings nothing; the receiver at each part of a message. -/
theorem witness_ReceiverRules :
    let taking (bytes : List Byte) := running.setLine { running.line with message := .taking .delivery bytes }
    let hearing (bytes : List Byte) : Hearing := { line := (taking bytes).line, events := [] }
    running.line.attempt = none ∧ running.line.chars = .hunting ∧ running.line.wireLow = false
      ∧ running.line.message = .waiting
      ∧ (running.hear [⟨true, 40⟩, ⟨false, 384⟩]).events = [((running.hear [⟨true, 40⟩, ⟨false, 384⟩]).line.readTo, .lineBreak)]
      ∧ ((taking [0x51]).hear idle).events = [(((taking [0x51]).hear idle).line.readTo, .rejected .idleWire)]
      ∧ (running.hear [⟨true, 40⟩]).events = [] ∧ attempting.line.attempt ≠ none
      ∧ (taking [0x51]).line.readTo < (taking [0x51]).line.wireSince + 14 * 16
      ∧ 7 < 16 / 2 ∧ 16 / 2 ≤ 7 + 1 ∧ 1 < 14 * 16
      ∧ ((hearing [0x51, 0x16]).takeNext 0 64).events = [] ∧ ((hearing [0x51, 0x16]).takeNext 0 65).events = [(0, .rejected .badLength)]
      ∧ ((hearing [0x51, 0x16, 0]).takeNext 0 0x99).events = [(0, .complete .delivery [0x51, 0x16, 0, 0x99])]
      ∧ ((hearing [0x51, 0x16, 0]).takeNext 0 0x98).events = [(0, .rejected .badCheck)]
      ∧ ((hearing [0x51, 0x16, 1]).takeNext 0 0x99).events = []
      ∧ (running.hear [⟨false, 384⟩]).line.chars = .waitHigh ∧ (running.hear [⟨false, 384⟩]).line.wireLow = true := by
  decide +kernel

/-- The longest body, a message for another station and one from the own address. -/
theorem witness_MessageDelivered :
    (List.replicate 64 (0x41 : Byte)).length ≤ 64 ∧ (List.replicate 63 (0x41 : Byte)).length ≤ 63 ∧ running.line.addr ≠ 0
      ∧ running.line.attempt = none ∧ running.msg.op ≠ .doze ∧ (1 : Addr) ≠ running.line.addr ∧ (7 : Addr) ≠ 0
      ∧ (7 : Addr) ≠ running.line.addr ∧ (5 : Addr) = running.line.addr ∧ running.line.listenOnly = false
      ∧ running.line.chars = .hunting ∧ running.line.message = .waiting ∧ running.line.wireLow = false
      ∧ running.now ≤ running.line.readTo ∧ kindKnown 0x7F = false ∧ listening.line.listenOnly = true
      ∧ listening.line.addr = 5 ∧ (heldBy { budget := true }).eng.holds.budget = true
      ∧ (heldBy { budget := true, doorOpen := true }).eng.holds.budget = true
      ∧ ({ budget := false, doorOpen := true } : HoldSet).any = true ∧ ({ budget := false } : HoldSet).any = false
      ∧ (wanting none).eng.st = .claiming ∧ (wanting none).eng.holds.budget = false ∧ running.eng.st ≠ .claiming
      ∧ State.reset.msg.window = .waitingPresent ∧ State.reset.msg.op ≠ .doze
      ∧ (0x10 : Byte) ∉ [(0x01 : Byte), 0x02, 0x03, 0x18] ∧ (0x02 : Byte) ∈ [(0x01 : Byte), 0x02, 0x03, 0x20, 0x21, 0x22, 0x23, 0x24]
      ∧ [(0 : Byte)] ≠ [] ∧ [(0 : Byte), 0].length ≠ 3 ∧ [(0 : Byte)].length ≠ 2 := by decide +kernel

/-- R184: a CLAIM addressed to the part is ignored; broadcast, it enters the neighbour table. -/
theorem test_addressed_claim_ignored :
    let t (dest : Addr) := after (.messageReceived (messageWave 16 0 (messageOf dest 7 0x03 [10, 0])) fine) running
    (t 5).bud.table = [] ∧ (t 5).line.replies = [] ∧ (t 0).bud.table.map Neighbour.mA = [100] := by decide +kernel

/-- R177, R191: a message from the own address in START withdraws the PRESENT and opens the setup window. -/
theorem test_conflict_in_start :
    let wave := messageWave 16 0 (messageOf 5 5 0x16 [])
    let t := after (.messageReceived wave fine) State.reset
    t.line.listenOnly = true ∧ t.msg.window = .opened ∧ t.msg.presentTimer = none ∧ t.line.notices = []
      ∧ t.msg.windowTimer = some (t.now + 2000000) := by decide +kernel

/-- The reply queue with three entries and with four, START and RUN, and a body of two characters. -/
theorem witness_RequestTests :
    let queued (n : Nat) := running.setLine { running.line with
      replies := List.replicate n { dest := 1, kind := 0x20, body := [0x11, 0, 0], count := 0 } }
    4 ≤ (queued 4).line.replies.length ∧ (queued 3).line.replies.length < 4 ∧ State.reset.msg.op = .start
      ∧ State.reset.line.attempt = none ∧ (1 : Addr) ≠ State.reset.line.addr ∧ running.msg.op = .run
      ∧ [(0 : Byte), 0].length = 2 ∧ kindKnown 0x1A = false ∧ kindKnown 0x25 = false ∧ [(0 : Byte)] ≠ []
      ∧ listening.line.listenOnly = true ∧ running.line.listenOnly = false ∧ running.msg.op ≠ .doze
      ∧ 5 ≤ (5 : Byte).toNat ∧ 6 ≤ (6 : Byte).toNat ∧ (List.replicate 59 (0 : Byte)).length ≠ 60
      ∧ online.call.params.isSome = true ∧ running.call.params = none := by decide

/-- Eight and nine unsent records; an unsent cell. -/
theorem witness_GatherExpiry :
    let due := running.setMsg { running.msg with keysTimer := some 10000, textTimer := some 20000, keysDue := true, textDue := true }
    due.msg.keysTimer = some 10000 ∧ due.msg.textTimer = some 20000 ∧ due.msg.keysDue = true ∧ due.kbd.inMessage = 0
      ∧ (records 8).length ≤ 8 ∧ 8 < (records 9).length ∧ (records 8) ≠ [] ∧ due.msg.textDue = true ∧ due.pool.fwqInMessage = 0
      ∧ chainCells (poolWith .fwq 1).fwq ≠ [] ∧ running.msg.op = .run ∧ running.line.listenOnly = false
      ∧ listening.line.listenOnly = true ∧ running.msg.keysDue = false ∧ running.pool.unsentText = 0
      ∧ (poolWith .fwq 31).unsentText = 31 ∧ (poolWith .fwq 32).unsentText = 32 := by decide +kernel

/-- R183: the timers start at a first key and a first cell; 32 cells go out at once, and none of 31 do. -/
theorem test_gathers :
    let keyed := State.reviewed running (running.setKbd { running.kbd with fifo := records 1 })
    let text (n : Nat) := State.reviewed running (running.setPool (poolWith .fwq n))
    keyed.msg.keysTimer = some 10000 ∧ keyed.line.keysSlot = none ∧ (text 31).msg.textTimer = some 20000
      ∧ (text 31).line.textSlot = none ∧ (text 32).pool.fwqInMessage = 32 ∧ (text 32).msg.textDue = false
      ∧ (text 33).msg.textDue = true := by decide +kernel

theorem witness_SetupTaken :
    State.reset.line.attempt = none ∧ State.reset.msg.op ≠ .doze ∧ (1 : Addr) ≠ State.reset.line.addr
      ∧ State.reset.line.replies.length < 4 ∧ State.reset.msg.window ≠ .closed ∧ setupBody.length = 22
      ∧ (setupBody.drop 1).length ≠ 22 ∧ running.msg.window = .closed ∧ setupBody[0]? = some 0
      ∧ (14 :: setupBody.drop 1).length = 22 ∧ (15 :: setupBody.drop 1).length = 22 ∧ (16 :: setupBody.drop 1).length = 22
      ∧ State.reset.line.addr = 5
      ∧ State.reset.msg.setup.Law :=
  ⟨by decide, by decide, by decide, by decide, by decide, by decide, by decide, by decide, by decide, by decide,
    by decide, by decide, by decide,
    { ohms := by decide, ceiling := by decide, motor := by decide, darkness := by decide, form := by decide,
      flush := by decide, delay := by decide, rate := by decide, low := by decide, high := by decide, wait := by decide,
      fade := by decide, routes := by decide }⟩

/-- R189: a record within its ranges is ACCEPTED, and one darkness above 7 makes it ADJUSTED. -/
theorem test_setup_answers :
    let body := setupBody.take 14 ++ [12, 24] ++ setupBody.drop 16
    let answer (b : List Byte) := (after (.setup m0 1 b) State.reset).line.replies.map ReplyEntry.body
    answer body = [[0x10, 0, 0]] ∧ answer (body.set 6 8) = [[0x10, 1, 0]] := by decide +kernel

/-- Idle and empty, in a call, and pending; the moment of entry with the conditions met and not. -/
theorem witness_DozeEntered :
    let pends (s : State) := s.setMsg { s.msg with dozePending := true }
    running.Takes 1 ∧ running.dozeReady = true ∧ online.Takes 1 ∧ online.dozeReady = false ∧ (pends running).Takes 1
      ∧ (pends running).msg.op = .run ∧ (pends running).msg.dozePending = true ∧ (pends running).line.claimSlot = none
      ∧ (pends running).line.replies = [] ∧ (pends running).dozeReady = true ∧ (pends running).bud.own = 0
      ∧ (pends online).dozeReady = false ∧ (running.setBud { running.bud with own := 10 }).Takes 1
      ∧ 0 < (running.setBud { running.bud with own := 10 }).bud.own ∧ (running.setBud { running.bud with granted := 10 }).Takes 1
      ∧ (running.setBud { running.bud with granted := 10 }).bud.granted ≠ 0 ∧ listening.Takes 1
      ∧ listening.line.listenOnly = true :=
  ⟨running_takes, by decide, online_takes, by decide, takes_of (by decide), by decide, by decide, by decide, by decide,
    by decide, by decide, by decide, takes_of (by decide), by decide, takes_of (by decide), by decide, takes_of (by decide),
    by decide⟩

/-- R170, R193: a DOZE taken with a claim hands 0 and stops the park timer. -/
theorem test_doze_releases :
    let s := running.setBud { running.bud with own := 600, completed := 600, granted := 600, parkTimer := some 2000000 }
    let t := after (.doze m0 1 []) s
    t.line.claimSlot.map ClaimSlot.mA = some 0 ∧ t.bud.parkTimer = none ∧ t.bud.granted = 0 ∧ t.bud.completed = 600
      ∧ t.msg.dozePending = true := by decide +kernel

theorem witness_StartUp :
    running.line.attempt = none ∧ running.msg.op ≠ .doze ∧ (1 : Addr) ≠ running.line.addr
      ∧ State.reset.msg.presentTimer = some 50000
      ∧ (State.reset.setMsg { State.reset.msg with window := .opened, windowTimer := some 2051056 }).msg.windowTimer
          = some 2051056
      ∧ [(0 : Byte)] ≠ [] := by decide

/-- R184, R192: a RESTART with a body leaves the call as it is, one without ends it; the handset stays in the cups. -/
theorem test_restart_body :
    online.call.seated = true ∧ (after (.restart m0 1 true [0]) online).call.st = .online
      ∧ (after (.restart m0 1 true []) online).call.st = .ready := by decide +kernel

/-- R118, R154, R155: RESTART with the door open leaves the engine in HELD as hold entry 1, from HELD too, and PRINT-HELD is
asked for; with all well it leaves it in IDLE. -/
theorem test_restart_samples :
    let opened : Moment := { t := 1000, sense := { fine with door := false } }
    let held := heldBy { controllerHold := true }
    let t := after (.restart opened 1 true []) (held.setEng { held.eng with holdCount := 9 })
    let r := after (.restart m0 1 true []) held
    t.eng.st = .held ∧ t.eng.holds = { doorOpen := true } ∧ t.eng.cause = some .doorOpen ∧ t.eng.holdCount = 1
      ∧ t.line.notices.length = 1 ∧ r.eng.st = .idle ∧ r.eng.holdCount = 0 ∧ r.line.notices = [] := by decide +kernel

/-- R118, R154: so does power-on with the supply low. -/
theorem test_powerOn_samples :
    let t := after (.powerOnReset 3 true { fine with vc := 139 }) running
    t.eng.st = .held ∧ t.eng.holds = { lowVoltage := true } ∧ t.eng.cause = some .lowVoltage ∧ t.eng.holdCount = 1 := by
  decide +kernel

/-- R118, R155: and waking with no paper. -/
theorem test_wake_samples :
    let t := dozing.wake { fine with paper := false }
    t.eng.st = .held ∧ t.eng.holds = { paperOut := true } ∧ (dozing.wake fine).eng.st = .idle := by decide +kernel

end Sys2Proof.Tests
end

/-! PROOFS. Controller bodies stored whole or refused (R7, R26, R27) and the table of sounds (R34, R35). -/

namespace Sys2Proof.Machine

/-! ## A pool with one chain and the free stack replaced -/

/-- The pool with its free stack, one chain and that chain's lost-pending flag replaced: all that storing can change. -/
def Pool.restock (p : Pool) (c : Chain) (ids : List Nat) (bs : List Block) (lost : Bool) : Pool :=
  ((p.setFree ids).setChain c bs).setLost c lost

section Restock

variable (p : Pool) (c : Chain) (ids : List Nat) (bs : List Block) (lost : Bool)

theorem Pool.restock_txq : p.restock .txq ids bs lost = { p with free := ids, txq := bs } := rfl

theorem Pool.restock_prq : p.restock .prq ids bs lost = { p with free := ids, prq := bs, prqLost := lost } := rfl

@[simp] theorem Pool.restock_free : (p.restock c ids bs lost).free = ids := by cases c <;> rfl

@[simp] theorem Pool.restock_chain : (p.restock c ids bs lost).chain c = bs := by cases c <;> rfl

@[simp] theorem Pool.restock_lost_false : (p.restock c ids bs false).lost c = false := by cases c <;> rfl

@[simp] theorem Pool.restock_self : p.restock c p.free (p.chain c) (p.lost c) = p := by cases c <;> rfl

@[simp] theorem Pool.restock_restock (ids' : List Nat) (bs' : List Block) (lost' : Bool) :
    (p.restock c ids bs lost).restock c ids' bs' lost' = p.restock c ids' bs' lost' := by cases c <;> rfl

end Restock

/-! ## The cells, the tail and the blocks of a chain -/

theorem chainCells_append (bs ds : List Block) : chainCells (bs ++ ds) = chainCells bs ++ chainCells ds := by
  simp [chainCells]

theorem chainCells_singleton (b : Block) : chainCells [b] = b.cells.drop b.consumed := by simp [chainCells]

theorem tailRoom_append_singleton (bs : List Block) (b : Block) : tailRoom (bs ++ [b]) = 16 - b.cells.length := by
  simp [tailRoom, Config.blockCells]

/-- A tail with room is a block at the end of the chain that is not full. -/
theorem exists_tail_of_tailRoom_pos {bs : List Block} (h : 0 < tailRoom bs) :
    ∃ front b, bs = front ++ [b] ∧ b.cells.length < 16 := by
  rcases List.eq_nil_or_concat bs with rfl | ⟨front, b, rfl⟩
  · exact absurd h (by decide)
  · rw [List.concat_eq_append, tailRoom_append_singleton] at h
    exact ⟨front, b, List.concat_eq_append, by omega⟩

theorem blocksNeeded_zero (room : Nat) : blocksNeeded 0 room = 0 := by simp [blocksNeeded]

theorem blocksNeeded_succ_of_room (n : Nat) {room : Nat} (h : 0 < room) :
    blocksNeeded (n + 1) room = blocksNeeded n (room - 1) := by
  simp only [blocksNeeded, divUp, Config.blockCells]
  split <;> split <;> omega

/-- With no room in the tail the first cell takes a block, which then has room for 15 more. -/
theorem blocksNeeded_succ_of_full (n : Nat) : blocksNeeded (n + 1) 0 = 1 + blocksNeeded n 15 := by
  simp only [blocksNeeded, divUp, Config.blockCells]
  split <;> split <;> omega

/-- No block of the chain has more cells consumed than written. -/
def ConsumedWithin (bs : List Block) : Prop := ∀ b ∈ bs, b.consumed ≤ b.cells.length

theorem Block.sound_consumed_le {b : Block} (h : b.sound = true) : b.consumed ≤ b.cells.length := by
  simp only [Block.sound, Bool.and_eq_true, decide_eq_true_eq] at h
  omega

theorem consumedWithin_of_bodySound : ∀ {bs : List Block}, bodySound bs = true → ConsumedWithin bs
  | [], _ => by simp [ConsumedWithin]
  | [b], h => by
    simp only [bodySound, Bool.and_eq_true] at h
    simpa [ConsumedWithin] using Block.sound_consumed_le h.1
  | b :: d :: rest, h => by
    simp only [bodySound, Bool.and_eq_true] at h
    obtain ⟨⟨⟨hb, -⟩, -⟩, hrest⟩ := h
    exact List.forall_mem_cons.2 ⟨Block.sound_consumed_le hb, consumedWithin_of_bodySound hrest⟩

theorem consumedWithin_of_chainSound : ∀ {bs : List Block}, chainSound bs = true → ConsumedWithin bs
  | [], _ => by simp [ConsumedWithin]
  | [b], h => by simpa [ConsumedWithin] using Block.sound_consumed_le h
  | b :: d :: rest, h => by
    simp only [chainSound, Bool.and_eq_true] at h
    obtain ⟨⟨hb, -⟩, hrest⟩ := h
    exact List.forall_mem_cons.2 ⟨Block.sound_consumed_le hb, consumedWithin_of_bodySound hrest⟩

/-- The pool's law, for a chain given by its name. -/
theorem Pool.Law.chain {p : Pool} (h : p.Law) (c : Chain) :
    (p.chain c).length ≤ c.cap ∧ ConsumedWithin (p.chain c) := by
  cases c
  · exact ⟨h.txq.1, consumedWithin_of_chainSound h.txq.2⟩
  · exact ⟨h.prq.1, consumedWithin_of_chainSound h.prq.2⟩
  · exact ⟨h.fwq.1, consumedWithin_of_chainSound h.fwq.2⟩

/-! ## One cell stored (R6, R14) -/

/-- A cell as its chain stores it: LOST-BEFORE is added while a loss is pending (R14). -/
def Pool.marked (p : Pool) (c : Chain) (cell : Cell) : Cell :=
  { cell with lostBefore := cell.lostBefore || p.lost c }

theorem Pool.store_of_tail {p : Pool} {c : Chain} {front : List Block} {b : Block} (cell : Cell)
    (chain : p.chain c = front ++ [b]) (room : b.cells.length < 16) :
    p.store c cell
      = some (p.restock c p.free (front ++ [{ b with cells := b.cells ++ [p.marked c cell] }]) false) := by
  have pos : 0 < 16 - b.cells.length := by omega
  simp only [Pool.store, Pool.putCell, chain, tailRoom_append_singleton, pos, if_true, List.getLast?_concat,
    List.dropLast_concat]
  cases c <;> rfl

theorem Pool.store_of_freeBlock {p : Pool} {c : Chain} {id : Nat} {rest : List Nat} (cell : Cell)
    (full : tailRoom (p.chain c) = 0) (below : (p.chain c).length < c.cap) (free : p.free = id :: rest) :
    p.store c cell
      = some (p.restock c rest (p.chain c ++ [{ id := id, cells := [p.marked c cell], consumed := 0 }]) false) := by
  simp only [Pool.store, Pool.putCell, full, lt_irrefl, if_false, below, if_true, free]
  rfl

/-! ## Cells stored one after another -/

/-- `q` is `p` with `cells` stored behind a chain in `need` further blocks from the top of the free stack, the chain's
lost-pending flag being left at `lost`. -/
structure Pool.Stored (p : Pool) (c : Chain) (cells : List Cell) (need : Nat) (lost : Bool) (q : Pool) : Prop where
  cells : chainCells (q.chain c) = chainCells (p.chain c) ++ cells
  length : (q.chain c).length = (p.chain c).length + need
  consumed : ConsumedWithin (q.chain c)
  frame : q = p.restock c (p.free.drop need) (q.chain c) lost

theorem Pool.Stored.nil {p : Pool} {c : Chain} (h : ConsumedWithin (p.chain c)) : p.Stored c [] 0 (p.lost c) p where
  cells := by simp
  length := rfl
  consumed := h
  frame := by simp

theorem Pool.Stored.free {p q : Pool} {c : Chain} {cells : List Cell} {need : Nat} {lost : Bool}
    (h : p.Stored c cells need lost q) : q.free = p.free.drop need := by
  rw [h.frame, Pool.restock_free]

theorem Pool.Stored.lost_eq_false {p q : Pool} {c : Chain} {cells : List Cell} {need : Nat}
    (h : p.Stored c cells need false q) : q.lost c = false := by
  rw [h.frame, Pool.restock_lost_false]

theorem Pool.Stored.trans {p q r : Pool} {c : Chain} {xs ys : List Cell} {m n : Nat} {v w : Bool}
    (h : p.Stored c xs m v q) (g : q.Stored c ys n w r) : p.Stored c (xs ++ ys) (m + n) w r where
  cells := by rw [g.cells, h.cells, List.append_assoc]
  length := by rw [g.length, h.length, Nat.add_assoc]
  consumed := g.consumed
  frame := by
    calc r = q.restock c (q.free.drop n) (r.chain c) w := g.frame
      _ = q.restock c (p.free.drop (m + n)) (r.chain c) w := by rw [h.free, List.drop_drop]
      _ = p.restock c (p.free.drop (m + n)) (r.chain c) w := by rw [h.frame, Pool.restock_restock]

theorem Pool.stored_in_tail {p : Pool} {c : Chain} {front : List Block} {b : Block} (cell : Cell)
    (chain : p.chain c = front ++ [b]) (within : ConsumedWithin (p.chain c)) :
    p.Stored c [cell] 0 false
      (p.restock c p.free (front ++ [{ b with cells := b.cells ++ [cell] }]) false) := by
  rw [ConsumedWithin, chain, List.forall_mem_append, List.forall_mem_singleton] at within
  obtain ⟨hfront, hb⟩ := within
  refine { cells := ?_, length := by simp [chain], consumed := ?_, frame := by simp }
  · simp [chain, chainCells_append, chainCells_singleton, List.drop_append_of_le_length hb]
  · rw [ConsumedWithin, Pool.restock_chain, List.forall_mem_append, List.forall_mem_singleton]
    exact ⟨hfront, by simpa using Nat.le_succ_of_le hb⟩

theorem Pool.stored_in_freeBlock {p : Pool} {c : Chain} {id : Nat} {rest : List Nat} (cell : Cell)
    (free : p.free = id :: rest) (within : ConsumedWithin (p.chain c)) :
    p.Stored c [cell] 1 false
      (p.restock c rest (p.chain c ++ [{ id := id, cells := [cell], consumed := 0 }]) false) := by
  refine { cells := ?_, length := by simp, consumed := ?_, frame := by simp [free] }
  · simp [chainCells_append, chainCells_singleton]
  · rw [ConsumedWithin, Pool.restock_chain, List.forall_mem_append, List.forall_mem_singleton]
    exact ⟨within, Nat.zero_le _⟩

/-- The first of `n + 1` cells that fit is stored, and the other `n` need just the blocks that are then still to come: the
step of R7's arithmetic. -/
theorem Pool.store_first {p : Pool} {c : Chain} (cell : Cell) (n : Nat) (within : ConsumedWithin (p.chain c))
    (cap : (p.chain c).length + blocksNeeded (n + 1) (tailRoom (p.chain c)) ≤ c.cap)
    (free : blocksNeeded (n + 1) (tailRoom (p.chain c)) ≤ p.free.length) :
    ∃ q k, p.store c cell = some q ∧ p.Stored c [p.marked c cell] k false q
      ∧ blocksNeeded (n + 1) (tailRoom (p.chain c)) = k + blocksNeeded n (tailRoom (q.chain c)) := by
  rcases Nat.eq_zero_or_pos (tailRoom (p.chain c)) with full | room
  · rw [full, blocksNeeded_succ_of_full] at cap free
    obtain ⟨id, rest, hfree⟩ := List.exists_cons_of_length_pos (show 0 < p.free.length by omega)
    refine ⟨_, 1, p.store_of_freeBlock cell full (by omega) hfree, p.stored_in_freeBlock _ hfree within, ?_⟩
    rw [full, blocksNeeded_succ_of_full, Pool.restock_chain, tailRoom_append_singleton]
    rfl
  · obtain ⟨front, b, chain, hb⟩ := exists_tail_of_tailRoom_pos room
    refine ⟨_, 0, p.store_of_tail cell chain hb, p.stored_in_tail _ chain within, ?_⟩
    rw [blocksNeeded_succ_of_room n room, chain, Pool.restock_chain, tailRoom_append_singleton,
      tailRoom_append_singleton]
    simp [Nat.sub_sub]

/-! ## A body stored (R7) -/

theorem bodyCells_false (body : List Byte) : bodyCells false body = body.map fun code => { code := code } := by
  cases body <;> rfl

theorem bodyCells_cons (p : Pool) (c : Chain) (code : Byte) (rest : List Byte) :
    bodyCells (p.lost c) (code :: rest) = [p.marked c { code := code }] ++ bodyCells false rest := by
  rw [bodyCells_false]
  simp [bodyCells, Pool.marked]

/-- A body whose blocks fit the cap and the free count is stored whole, in order, the first cell with the pending loss. -/
theorem Pool.putBody_stored {c : Chain} (body : List Byte) : ∀ {p : Pool}, ConsumedWithin (p.chain c) →
    (p.chain c).length + blocksNeeded body.length (tailRoom (p.chain c)) ≤ c.cap →
    blocksNeeded body.length (tailRoom (p.chain c)) ≤ p.free.length →
    p.Stored c (bodyCells (p.lost c) body) (blocksNeeded body.length (tailRoom (p.chain c)))
      (p.lost c && body.isEmpty) (p.putBody c body) := by
  induction body with
  | nil =>
    intro p within _ _
    simpa [Pool.putBody, bodyCells, blocksNeeded_zero] using Pool.Stored.nil within
  | cons code rest ih =>
    intro p within cap free
    obtain ⟨q, k, store, first, need⟩ := Pool.store_first { code := code } rest.length within cap free
    rw [List.length_cons, need] at cap free ⊢
    have others := ih first.consumed (by rw [first.length]; omega) (by rw [first.free, List.length_drop]; omega)
    rw [first.lost_eq_false, Bool.false_and] at others
    simpa only [Pool.putBody, store, bodyCells_cons, List.isEmpty_cons, Bool.and_false] using first.trans others

theorem Pool.Law.storeBody {p : Pool} (law : p.Law) (c : Chain) (body : List Byte)
    (cap : (p.chain c).length + blocksNeeded body.length (tailRoom (p.chain c)) ≤ c.cap)
    (free : blocksNeeded body.length (tailRoom (p.chain c)) ≤ p.free.length) :
    ∃ q, p.storeBody c body = some q
      ∧ p.Stored c (bodyCells (p.lost c) body) (blocksNeeded body.length (tailRoom (p.chain c)))
          (p.lost c && body.isEmpty) q :=
  ⟨p.putBody c body, by simp [Pool.storeBody, Pool.bodyFits, cap, free],
    Pool.putBody_stored body (law.chain c).2 cap free⟩

/-! ## The Router's test of a controller body (R26, R27) -/

theorem State.noRoom_iff (s : State) (c : Chain) (body : List Byte) :
    s.noRoom c body.length = true ↔
      body ≠ [] ∧ (c.cap < (s.pool.chain c).length + blocksNeeded body.length (tailRoom (s.pool.chain c))
        ∨ s.pool.free.length - blocksNeeded body.length (tailRoom (s.pool.chain c)) ≤ s.msg.setup.lowMark) := by
  simp [State.noRoom]

/-- A body that passes the Router's test passes the pool's own: the low-mark floor leaves more than the blocks needed, and an
empty body needs none. -/
theorem State.storeBody_of_room {s : State} (law : s.pool.Law) (c : Chain) (body : List Byte)
    (room : s.noRoom c body.length = false) :
    ∃ q, s.storeBody c body = some (s.changePool q)
      ∧ s.pool.Stored c (bodyCells (s.pool.lost c) body) (blocksNeeded body.length (tailRoom (s.pool.chain c)))
          (s.pool.lost c && body.isEmpty) q := by
  have fits : (s.pool.chain c).length + blocksNeeded body.length (tailRoom (s.pool.chain c)) ≤ c.cap
      ∧ blocksNeeded body.length (tailRoom (s.pool.chain c)) ≤ s.pool.free.length := by
    by_cases empty : body = []
    · subst empty
      simpa [blocksNeeded_zero] using (law.chain c).1
    · have passed := (s.noRoom_iff c body).not.1 (by simp [room])
      push Not at passed
      obtain ⟨cap, floor⟩ := passed empty
      omega
  obtain ⟨q, store, stored⟩ := law.storeBody c body fits.1 fits.2
  exact ⟨q, by simp [State.storeBody, store], stored⟩

/-! ## PRINT TEXT (R26) -/

theorem State.printTextRule_noRoom {s : State} {body : List Byte} (h : s.noRoom .prq body.length = true) :
    s.printTextRule body = (s, .busy .noRoom) := by
  simp [State.printTextRule, h]

theorem State.printTextRule_stored {s s' : State} {body : List Byte} (h : s.noRoom .prq body.length = false)
    (store : s.storeBody .prq body = some s') : s.printTextRule body = (s'.openImage.arrival, .accepted) := by
  simp [State.printTextRule, h, store]

/-- A PRINT TEXT that reaches its rule: the rule's state with the rule's answer. -/
theorem State.Takes.printText {s : State} {src : Addr} (h : s.Takes src) (m : Moment) (body : List Byte) :
    exec (.printText m src body) s
      = .next (State.reviewed s (((s.heard m.t).printTextRule body).1.reply src kindPrintText
          ((s.heard m.t).printTextRule body).2)) := by
  change Host.Outcome.next (s.delivered m s.line.addr src fun u => u.printTextRequest src body) = _
  rw [h.delivered, State.printTextRequest, h.request, if_pos rfl]

/-- Settles O12: the Router's test decides, and a body that passes it is stored by `State.storeBody_of_room`. -/
theorem printTextRequest : Obligations.PrintTextRequest := by
  intro s m src body takes law u need noRoom
  have hpool : u.pool = s.pool := by simp [u]
  have hsetup : u.msg = s.msg := by simp [u]
  have test : u.noRoom .prq body.length = true ↔ noRoom := by
    rw [State.noRoom_iff, hpool, hsetup]
    rfl
  rw [takes.printText]
  refine ⟨fun refused => ?_, fun passed => ?_⟩
  · rw [State.printTextRule_noRoom (test.2 refused)]
  · have room : u.noRoom .prq body.length = false := by simpa using test.not.2 passed
    obtain ⟨q, store, stored⟩ := State.storeBody_of_room (hpool ▸ law) .prq body room
    rw [hpool] at stored
    exact ⟨q, by rw [State.printTextRule_stored room store], stored.cells,
      stored.frame.trans (Pool.restock_prq _ _ _ _), stored.length⟩

/-! ## SEND TEXT (R27) -/

theorem CallState.carrying_iff (st : CallState) : st.carrying = true ↔ st = .online ∨ st = .fading := by
  simp [CallState.carrying]

theorem State.sendTextRule_offline {s : State} {body : List Byte} (h : s.call.st.carrying = false) :
    s.sendTextRule body = (s, .refused .offline) := by
  simp [State.sendTextRule, h]

theorem State.sendTextRule_noRoom {s : State} {body : List Byte} (online : s.call.st.carrying = true)
    (h : s.noRoom .txq body.length = true) : s.sendTextRule body = (s, .busy .noRoom) := by
  simp [State.sendTextRule, online, h]

theorem State.sendTextRule_stored {s s' : State} {body : List Byte} (online : s.call.st.carrying = true)
    (h : s.noRoom .txq body.length = false) (store : s.storeBody .txq body = some s') :
    s.sendTextRule body = ((s'.echoBody body).openImage.arrival, .accepted) := by
  simp [State.sendTextRule, online, h, store]

theorem State.echoBody_off {s : State} (body : List Byte) (h : s.router.routing.echo = false) : s.echoBody body = s := by
  simp [State.echoBody, h]

theorem State.echoBody_dropped {s : State} {body : List Byte} (h : s.router.routing.echo = true)
    (full : s.pool.storeBody .prq body = none) : s.echoBody body = s.setPool { s.pool with prqLost := true } := by
  simp only [State.echoBody, h, if_true, State.storeBody, full, Option.map_none]
  rfl

theorem State.echoBody_stored {s : State} {body : List Byte} {q : Pool} (h : s.router.routing.echo = true)
    (store : s.pool.storeBody .prq body = some q) : s.echoBody body = s.changePool q := by
  simp only [State.echoBody, h, if_true, State.storeBody, store, Option.map_some]

/-- A SEND TEXT that reaches its rule: the rule's state with the rule's answer. -/
theorem State.Takes.sendText {s : State} {src : Addr} (h : s.Takes src) (m : Moment) (body : List Byte) :
    exec (.sendText m src body) s
      = .next (State.reviewed s (((s.heard m.t).sendTextRule body).1.reply src kindSendText
          ((s.heard m.t).sendTextRule body).2)) := by
  change Host.Outcome.next (s.delivered m s.line.addr src fun u => u.sendTextRequest src body) = _
  rw [h.delivered, State.sendTextRequest, h.request, if_pos rfl]

/-- Settles O13: the call state, then the Router's test, then `State.storeBody_of_room` for TXQ; the echo by its three
cases. -/
theorem sendTextRequest : Obligations.SendTextRequest := by
  intro s m src body takes law u need noRoom
  have hpool : u.pool = s.pool := by simp [u]
  have hsetup : u.msg = s.msg := by simp [u]
  have hcall : u.call = s.call := by simp [u]
  have test : u.noRoom .txq body.length = true ↔ noRoom := by
    rw [State.noRoom_iff, hpool, hsetup]
    rfl
  rw [takes.sendText]
  refine ⟨fun notOnline notFading => ?offline, fun inCall => ?inCall, fun v => State.echoBody_off body,
    fun v echo => ⟨State.echoBody_dropped echo, fun q => State.echoBody_stored echo⟩⟩
  case offline =>
    have offline : u.call.st.carrying = false := by
      simpa [hcall, notOnline, notFading] using (CallState.carrying_iff s.call.st).not
    rw [State.sendTextRule_offline offline]
  case inCall =>
    have online : u.call.st.carrying = true := by rwa [hcall, CallState.carrying_iff]
    refine ⟨fun refused => ?_, fun passed => ?_⟩
    · rw [State.sendTextRule_noRoom online (test.2 refused)]
    · have room : u.noRoom .txq body.length = false := by simpa using test.not.2 passed
      obtain ⟨q, store, stored⟩ := State.storeBody_of_room (hpool ▸ law) .txq body room
      rw [hpool] at stored
      exact ⟨q, by rw [State.sendTextRule_stored online room store], stored.cells,
        stored.frame.trans (Pool.restock_txq _ _ _ _), stored.length⟩

/-! ## Sounds (R34, R35) -/

theorem State.askSound_taken {s : State} {asked : Sound} (h : soundTaken s.beeper.sound asked = true) :
    s.askSound asked = s.setBeeper { sound := asked, started := s.now, ends := some (s.now + asked.length) } :=
  if_pos h

theorem State.askSound_dropped {s : State} {asked : Sound} (h : soundTaken s.beeper.sound asked = false) :
    s.askSound asked = s := by
  simp [State.askSound, h]

theorem soundTaken_bell (current : Sound) : soundTaken current .bell = true := by cases current <;> rfl

theorem soundTaken_error (current : Sound) : soundTaken current .error = true := by cases current <;> rfl

theorem soundTaken_click_iff (current : Sound) :
    soundTaken current .click = true ↔ current = .none ∨ current = .click := by
  cases current <;> simp [soundTaken]

theorem soundTaken_click_eq_false_iff (current : Sound) :
    soundTaken current .click = false ↔ current = .bell ∨ current = .error := by
  cases current <;> simp [soundTaken]

theorem execSoundEnd_of_ends {s : State} {d : Nat} (h : s.beeper.ends = some d) :
    execSoundEnd s = .next ((s.advanceTo d).setBeeper .reset) := by
  simp [execSoundEnd, State.atTimer, h]

/-- Settles O15: bell and error beep always start, and a click starts behind none and a click alone. -/
theorem soundTable : Obligations.SoundTable := by
  refine ⟨fun s d ends => execSoundEnd_of_ends ends, fun s => ⟨fun click => ?_, fun dropped => ?_, ?_, ?_⟩⟩
  · exact State.askSound_taken ((soundTaken_click_iff _).2 click)
  · exact State.askSound_dropped ((soundTaken_click_eq_false_iff _).2 dropped)
  · exact State.askSound_taken (soundTaken_bell _)
  · exact State.askSound_taken (soundTaken_error _)

end Sys2Proof.Machine

/-! PROOFS. The heating time and its three phases (R120, R121). -/

namespace Sys2Proof.Machine

/-! ## The three phases of a heating time (R121) -/

/-- P1 rounds 60 hundredths of the time where t75 rounds 75, so P2 is a difference that is never cut at zero. -/
theorem phase1_le_threeQuarter (heat : Nat) : phase1 heat ≤ threeQuarter heat := by
  simp only [phase1, threeQuarter, divRound]
  omega

theorem threeQuarter_le (heat : Nat) : threeQuarter heat ≤ heat := by
  simp only [threeQuarter, divRound]
  omega

theorem phase1_add_phase2 (heat : Nat) : phase1 heat + phase2 heat = threeQuarter heat :=
  Nat.add_sub_of_le (phase1_le_threeQuarter heat)

theorem phases_sum (heat : Nat) : phase1 heat + phase2 heat + phase3 heat = heat := by
  rw [phase1_add_phase2]
  exact Nat.add_sub_of_le (threeQuarter_le heat)

theorem phase1_bounds {heat : Nat} (low : 250 ≤ heat) (high : heat ≤ 2500) :
    150 ≤ phase1 heat ∧ phase1 heat ≤ 1500 := by
  simp only [phase1, divRound]
  omega

theorem phase2_bounds {heat : Nat} (low : 250 ≤ heat) (high : heat ≤ 2500) :
    37 ≤ phase2 heat ∧ phase2 heat ≤ 375 := by
  simp only [phase2, threeQuarter, phase1, divRound]
  omega

theorem phase3_bounds {heat : Nat} (low : 250 ≤ heat) (high : heat ≤ 2500) :
    62 ≤ phase3 heat ∧ phase3 heat ≤ 625 := by
  simp only [phase3, threeQuarter, divRound]
  omega

/-! ## The heating time (R120) -/

theorem clampTo_bounds {lo hi : Nat} (h : lo ≤ hi) (a : Nat) : lo ≤ clampTo lo hi a ∧ clampTo lo hi a ≤ hi :=
  ⟨le_max_left _ _, max_le h (min_le_left _ _)⟩

theorem heatTime_bounds (darkness : Nat) (vc tc : Byte) : 250 ≤ heatTime darkness vc tc ∧ heatTime darkness vc tc ≤ 2500 :=
  clampTo_bounds (by decide) _

/-! ## The figures of a dot line -/

/-- A dot line that heats takes its figures from one heating time, that of its darkness and of the latest sample. -/
theorem State.beginDotLine_figures {s : State} {pattern : Dots} {bursts : List Dots} {d : DotLine} (heats : pattern ≠ 0)
    (begun : (s.beginDotLine pattern bursts).eng.inProgress = some d) :
    d.heat = heatTime s.lineDarkness s.eng.vc s.eng.tc
      ∧ d.p1 = phase1 d.heat ∧ d.p2 = phase2 d.heat ∧ d.p3 = phase3 d.heat := by
  simp only [State.beginDotLine, State.setEng_eng, Option.some.injEq, if_neg heats] at begun
  subst begun
  exact ⟨rfl, rfl, rfl, rfl⟩

theorem DotLine.nextBurst_phases (d : DotLine) :
    d.nextBurst.p1 = d.p1 ∧ d.nextBurst.p2 = d.p2 ∧ d.nextBurst.p3 = d.p3 := by
  unfold DotLine.nextBurst
  split <;> exact ⟨rfl, rfl, rfl⟩

theorem DotLine.nextStage_phases (d : DotLine) (previous beforePrevious : Dots) :
    (d.nextStage previous beforePrevious).p1 = d.p1 ∧ (d.nextStage previous beforePrevious).p2 = d.p2
      ∧ (d.nextStage previous beforePrevious).p3 = d.p3 := by
  unfold DotLine.nextStage
  cases d.stage with
  | load => exact ⟨rfl, rfl, rfl⟩
  | p1 =>
    dsimp only
    split
    · exact ⟨rfl, rfl, rfl⟩
    · exact d.nextBurst_phases
  | p2 =>
    dsimp only
    split
    · exact ⟨rfl, rfl, rfl⟩
    · exact d.nextBurst_phases
  | p3 => exact d.nextBurst_phases
  | advance => exact ⟨rfl, rfl, rfl⟩

/-- Settles O38: the rounded parts are nested, so their differences are exact; the heating time is a clamped value; a dot line
takes its figures once, and no stage writes them. -/
theorem phaseFigures : Obligations.PhaseFigures := by
  refine ⟨fun heat => ⟨rfl, rfl, phase1_add_phase2 heat, phases_sum heat, fun low high => ?bounds⟩, heatTime_bounds,
    fun darkness vc tc _ _ => ?stages, fun s pattern bursts d => State.beginDotLine_figures, DotLine.nextStage_phases⟩
  case bounds =>
    obtain ⟨p1Low, p1High⟩ := phase1_bounds low high
    obtain ⟨p2Low, p2High⟩ := phase2_bounds low high
    exact ⟨p1Low, p1High, p2Low, p2High, phase3_bounds low high⟩
  case stages =>
    simp only [heatTime, clampTo, voltageTime, referenceTime, coolFactor, supplyMv, divRound, Nat.mul_comm vc.toNat 40]

end Sys2Proof.Machine

/-! PROOFS. What a command can do, in the terms that the laws speak of: the digest of a state, and the moves of which every step
consists. -/

namespace Sys2Proof.Machine

/-! ## The digest of a state -/

/-- The call as its law sees it (R79, R80, R88, R91). -/
structure CallView where
  seated : Bool
  st : CallState
  params : Option CallParams
  muted : Bool
  breaking : Bool

def Call.view (c : Call) : CallView :=
  { seated := c.seated, st := c.st, params := c.params, muted := c.muted, breaking := c.breakInProgress }

/-- The engine as its law sees it, with the motor phase (R132, R144, R147). -/
structure EngineView where
  st : EngineState
  holds : HoldSet
  cause : Option Hold
  motorPhase : BitVec 3

def Engine.view (e : Engine) : EngineView :=
  { st := e.st, holds := e.holds, cause := e.cause, motorPhase := e.motorPhase }

/-- The key FIFO with the records of the KEYS message in its slot (R51). -/
structure KeyView where
  fifo : List KeyRecord
  inMessage : Nat
  slot : Option (List KeyRecord)

def keyView (k : Keyboard) (l : Line) : KeyView :=
  { fifo := k.fifo, inMessage := k.inMessage, slot := l.keysSlot.map KeysMessage.records }

/-- The values claimed and granted, with the value in the CLAIM slot and the one that waits behind it (R161, R182). -/
structure ClaimView where
  raise : Raise
  granted : Nat
  own : Nat
  completed : Nat
  slot : Option (Nat × Option Nat)

def ClaimSlot.values (c : ClaimSlot) : Nat × Option Nat := (c.mA, c.next)

def claimView (b : Budget) (l : Line) : ClaimView :=
  { raise := b.raise, granted := b.granted, own := b.own, completed := b.completed,
    slot := l.claimSlot.map ClaimSlot.values }

/-- The outbound queues: how many replies, and the kinds of the notices (R186, R187). -/
structure QueueView where
  replies : Nat
  notices : List NoticeKind

def kindsOf (q : List NoticeEntry) : List NoticeKind := q.map fun e => e.notice.kind

def Line.queueView (l : Line) : QueueView := { replies := l.replies.length, notices := kindsOf l.notices }

/-- All that the laws of the state and WhoChangesWhat speak of. -/
structure Digest where
  pending : List Instr
  pool : Pool
  call : CallView
  engine : EngineView
  keys : KeyView
  claim : ClaimView
  queues : QueueView
  table : List Neighbour
  caps : Bool
  localMode : Bool
  routing : Routing
  darkness : Nat
  wide : Bool
  setup : Setup
  addr : Addr
  fast : Bool
  straps : Addr
  listenOnly : Bool

def State.digest (s : State) : Digest :=
  { pending := s.pending, pool := s.pool, call := s.call.view, engine := s.eng.view, keys := keyView s.kbd s.line,
    claim := claimView s.bud s.line, queues := s.line.queueView, table := s.bud.table, caps := s.kbd.caps,
    localMode := s.router.localMode, routing := s.router.routing, darkness := s.asm.stagedDarkness,
    wide := s.asm.stagedWide, setup := s.msg.setup, addr := s.line.addr, fast := s.line.fast, straps := s.pins.straps,
    listenOnly := s.line.listenOnly }

/-! ## The moves -/

/-- What only certain commands may do. -/
inductive Label where
  | straps
  | cups
  | setup
  | routes
  | places
  | keys
  | darkness
  | width
  | motor
  | claimSent
  | restart
  | reply

/-- That many cells taken from the head of FWQ (R10). -/
def Pool.takeCells (p : Pool) : Nat → Pool
  | 0 => p
  | n + 1 =>
    match p.take .fwq with
    | some r => r.2.takeCells n
    | none => p

/-- What becomes of the pool; a cell enters TXQ only during a call, and a cell leaves FWQ only with its message (R10, R12). -/
inductive PoolMove (carrying : Bool) (p : Pool) : Pool → Prop where
  | store {c : Chain} {cell : Cell} {q : Pool} (inCall : c = .txq → carrying = true) (stored : p.store c cell = some q) :
      PoolMove carrying p q
  | body {c : Chain} {codes : List Byte} {q : Pool} (inCall : c = .txq → carrying = true)
      (stored : p.storeBody c codes = some q) : PoolMove carrying p q
  | take {c : Chain} {cell : Cell} {q : Pool} (notFwq : c ≠ .fwq) (taken : p.take c = some (cell, q)) : PoolMove carrying p q
  | lost (c : Chain) : PoolMove carrying p (p.setLost c true)
  | discardFwq : PoolMove carrying p (p.discard .fwq)
  | textGone (n : Nat) : PoolMove carrying p { p.takeCells n with fwqInMessage := 0 }
  | textBuilt : PoolMove carrying p
      { p with fwqInMessage := ((chainCells p.fwq).take Config.cellsPerMessage).length }

/-- What becomes of the call, TXQ being discarded with it at entry to DROPPING (R94). -/
inductive CallMove (L : Label → Prop) (c : CallView) : CallView → Prop where
  | breakBegun (online : c.st = .online) : CallMove L c { c with breaking := true }
  | breakOver : CallMove L c { c with breaking := false }
  | rested (resting : c.st = .dropping ∨ c.st = .loop) : CallMove L c { c with st := restState c.seated }
  | online (qualified : c.st = .origWait ∨ c.st = .ansTone ∨ c.st = .fading) : CallMove L c { c with st := .online }
  | fading (online : c.st = .online) : CallMove L c { c with st := .fading }
  | looped (free : c.st = .idle ∨ c.st = .ready) : CallMove L c { c with st := .loop }
  | placed (label : L .places) (ready : c.st = .ready) (p : CallParams) {st : CallState}
      (waiting : st = .origWait ∨ st = .ansTone) : CallMove L c { c with st := st, params := some p }
  | lifted (label : L .cups) :
      CallMove L c { c with seated := false, st := if c.st = .ready then .idle else c.st }
  | seated (label : L .cups) :
      CallMove L c { c with seated := true, st := if c.st = .idle then .ready else c.st }
  | muted (inCall : c.st.carrying = true) : CallMove L c { c with muted := true }
  | unmuted : CallMove L c { c with muted := false }

/-- What becomes of the engine (R144, R147). -/
inductive EngineMove (L : Label → Prop) (e : EngineView) : EngineView → Prop where
  | held {h : HoldSet} {c : Hold} (highest : h.highest = some c) :
      EngineMove L e { e with st := .held, holds := h, cause := some c }
  | kept {h : HoldSet} {c : Hold} (present : e.holds.any = true) (has : h.has c = true) :
      EngineMove L e { e with holds := h, cause := some c }
  | goes (st : EngineState) (free : e.st ≠ .held ∨ e.holds.any = false) (notHeld : st ≠ .held) : EngineMove L e { e with st := st }
  | resumed (st : EngineState) (notHeld : st ≠ .held) : EngineMove L e { e with st := st, holds := {}, cause := none }
  | motor (label : L .motor) (phase : BitVec 3) : EngineMove L e { e with motorPhase := phase }

/-- What becomes of the key FIFO (R51, R52). -/
inductive KeyMove (k : KeyView) : KeyView → Prop where
  | record (r : KeyRecord) (room : k.fifo.length < Config.keyFifoSize) : KeyMove k { k with fifo := k.fifo ++ [r] }
  | built (waiting : k.fifo ≠ []) (free : k.inMessage = 0) :
      KeyMove k { k with
        inMessage := (k.fifo.take Config.keysPerMessage).length, slot := some (k.fifo.take Config.keysPerMessage) }
  | gone : KeyMove k { fifo := k.fifo.drop k.inMessage, inMessage := 0, slot := none }
  | emptied : KeyMove k { fifo := [], inMessage := 0, slot := none }

/-- A value handed to the CLAIM slot: it takes the slot, or waits behind the value in it (R161, R182). -/
inductive Handed (mA : Nat) : (before after : Option (Nat × Option Nat)) → Prop where
  | taken (before : Option (Nat × Option Nat)) : Handed mA before (some (mA, none))
  | waiting (m : Nat) (n : Option Nat) : Handed mA (some (m, n)) (some (m, some mA))

/-- What may be drawn without a further CLAIM. -/
def ClaimView.drawn (v : ClaimView) : Nat :=
  match v.raise with
  | .settling c => max v.granted c
  | _ => v.granted

/-- The raise state once the value in the CLAIM slot is sent: the last value handed begins the settle (R163). -/
def raiseSent (r : Raise) (next : Option Nat) : Raise :=
  match r, next with
  | .asking a, none => .settling a
  | r, _ => r

/-- What becomes of the values claimed and granted (R161 to R170, R182). -/
inductive ClaimMove (L : Label → Prop) (v : ClaimView) : ClaimView → Prop where
  | raised {mA : Nat} {slot : Option (Nat × Option Nat)} (free : v.raise = .none) (above : v.granted ≤ mA)
      (handed : Handed mA v.slot slot) : ClaimMove L v { v with raise := .asking mA, own := mA, slot := slot }
  | lowered {mA : Nat} {slot : Option (Nat × Option Nat)} (within : mA ≤ v.drawn) (handed : Handed mA v.slot slot) :
      ClaimMove L v { v with raise := .none, own := mA, granted := mA, slot := slot }
  | settled {mA : Nat} (within : mA ≤ v.drawn) : ClaimMove L v { v with raise := .none, granted := mA }
  | released : ClaimMove L v { v with raise := .none, own := 0, granted := 0 }
  | restated {slot : Option (Nat × Option Nat)} (handed : Handed v.own v.slot slot) : ClaimMove L v { v with slot := slot }
  | sent (label : L .claimSent) {mA : Nat} {next : Option Nat} (inSlot : v.slot = some (mA, next)) :
      ClaimMove L v { v with
        completed := mA, raise := raiseSent v.raise next, slot := next.map fun n => (n, none) }
  | followed {mA next : Nat} (inSlot : v.slot = some (mA, some next)) : ClaimMove L v { v with slot := some (next, none) }
  | dropped (quiet : ∀ a, v.raise ≠ .asking a) : ClaimMove L v { v with slot := none }
  | abandoned : ClaimMove L v { v with raise := .none, own := v.completed, slot := none }
  | silenced : ClaimMove L v { v with raise := .none, own := 0, granted := 0, slot := none }

/-- What becomes of the neighbour table (R158, R159, R184). -/
inductive TableMove (own : Addr) (b : Budget) : List Neighbour → Prop where
  | claim (src : Addr) (mA : Nat) (within : mA ≤ Config.maxCurrent) : TableMove own b (b.hearClaim own src mA).table
  | present (src : Addr) : TableMove own b (b.hearPresent own src).table
  | aged : TableMove own b b.age.table
  | cleared : TableMove own b []

/-- What becomes of the queues (R180, R186, R187). -/
inductive QueueMove (L : Label → Prop) (q : QueueView) : QueueView → Prop where
  | posted (k : NoticeKind) (fresh : k ∉ q.notices) : QueueMove L q { q with notices := q.notices ++ [k] }
  | noticesLeft {ks : List NoticeKind} (sub : ks.Sublist q.notices) : QueueMove L q { q with notices := ks }
  | replied (label : L .reply) (room : q.replies < Config.replyQueueSize) : QueueMove L q { q with replies := q.replies + 1 }
  | repliesLeft {n : Nat} (fewer : n ≤ q.replies) : QueueMove L q { q with replies := n }

/-- The digest after RESTART, before the engine's sample (R192). -/
def Digest.restarted (d : Digest) : Digest :=
  { d with
    pool := d.pool.restarted
    call := { seated := d.call.seated, st := restState d.call.seated, params := none, muted := false, breaking := false }
    engine := (Engine.reset 0).view
    keys := { fifo := [], inMessage := 0, slot := none }
    claim := { raise := .none, granted := 0, own := 0, completed := 0, slot := none }
    queues := { replies := 0, notices := [] }
    table := [], caps := false, localMode := false, routing := d.setup.routing, darkness := d.setup.darkness, wide := false
    listenOnly := false }

/-- One move of a step; a labelled one is made only where its label is among `L`. -/
inductive Move (L : Label → Prop) (d : Digest) : Digest → Prop where
  | pool {p : Pool} (h : PoolMove d.call.st.carrying d.pool p) : Move L d { d with pool := p }
  | call {c : CallView} (h : CallMove L d.call c) : Move L d { d with call := c }
  | dropping : Move L d { d with
      call := { d.call with st := .dropping, muted := false, breaking := false }, pool := d.pool.discard .txq }
  | engine {e : EngineView} (h : EngineMove L d.engine e) : Move L d { d with engine := e }
  | keys {k : KeyView} (h : KeyMove d.keys k) : Move L d { d with keys := k }
  | claim {v : ClaimView} (h : ClaimMove L d.claim v) : Move L d { d with claim := v }
  | queues {q : QueueView} (h : QueueMove L d.queues q) : Move L d { d with queues := q }
  | table {b : Budget} (here : b.table = d.table) {t : List Neighbour} (h : TableMove d.addr b t) : Move L d { d with table := t }
  | caps (label : L .keys) (v : Bool) : Move L d { d with caps := v }
  | localMode (label : L .keys) (v : Bool) : Move L d { d with localMode := v }
  | routing (label : L .routes) (r : Routing) : Move L d { d with routing := r }
  | darkness (label : L .darkness) (v : Nat) : Move L d { d with darkness := v }
  | wide (label : L .width) (v : Bool) : Move L d { d with wide := v }
  | setup (label : L .setup) (body : List Byte) (own sender : Addr) :
      Move L d { d with
        setup := (setupOf body own sender).1, routing := (setupOf body own sender).1.routing
        darkness := (setupOf body own sender).1.darkness }
  | listenOnly : Move L d { d with listenOnly := true }
  | restart (label : L .restart) : Move L d d.restarted
  | powerUp (label : L .straps) (straps : Addr) (rateHigh : Bool) :
      Move L d (State.powerUp d.pending straps rateHigh).digest

/-- A run of moves. -/
def Moves (L : Label → Prop) : Digest → Digest → Prop := Relation.ReflTransGen (Move L)

variable {L M : Label → Prop} {d e f : Digest}

@[refl] theorem Moves.refl (d : Digest) : Moves L d d := Relation.ReflTransGen.refl

/-- More labels allow more. -/
theorem Move.mono (sub : ∀ l, L l → M l) (h : Move L d e) : Move M d e := by
  cases h with
  | pool h => exact .pool h
  | call h =>
    refine .call ?_
    cases h with
    | breakBegun h => exact .breakBegun h
    | breakOver => exact .breakOver
    | rested h => exact .rested h
    | online h => exact .online h
    | fading h => exact .fading h
    | looped h => exact .looped h
    | placed label ready p waiting => exact .placed (sub _ label) ready p waiting
    | lifted label => exact .lifted (sub _ label)
    | seated label => exact .seated (sub _ label)
    | muted h => exact .muted h
    | unmuted => exact .unmuted
  | dropping => exact .dropping
  | engine h =>
    refine .engine ?_
    cases h with
    | held h => exact .held h
    | kept present has => exact .kept present has
    | goes st free notHeld => exact .goes st free notHeld
    | resumed st notHeld => exact .resumed st notHeld
    | motor label phase => exact .motor (sub _ label) phase
  | keys h => exact .keys h
  | claim h =>
    refine .claim ?_
    cases h with
    | raised free above handed => exact .raised free above handed
    | lowered within handed => exact .lowered within handed
    | settled within => exact .settled within
    | released => exact .released
    | restated handed => exact .restated handed
    | sent label inSlot => exact .sent (sub _ label) inSlot
    | followed inSlot => exact .followed inSlot
    | dropped quiet => exact .dropped quiet
    | abandoned => exact .abandoned
    | silenced => exact .silenced
  | queues h =>
    refine .queues ?_
    cases h with
    | posted k fresh => exact .posted k fresh
    | noticesLeft sublist => exact .noticesLeft sublist
    | replied label room => exact .replied (sub _ label) room
    | repliesLeft fewer => exact .repliesLeft fewer
  | table here h => exact .table here h
  | caps label v => exact .caps (sub _ label) v
  | localMode label v => exact .localMode (sub _ label) v
  | routing label r => exact .routing (sub _ label) r
  | darkness label v => exact .darkness (sub _ label) v
  | wide label v => exact .wide (sub _ label) v
  | setup label body own sender => exact .setup (sub _ label) body own sender
  | listenOnly => exact .listenOnly
  | restart label => exact .restart (sub _ label)
  | powerUp label straps rateHigh => exact .powerUp (sub _ label) straps rateHigh

theorem Moves.mono (sub : ∀ l, L l → M l) (h : Moves L d e) : Moves M d e :=
  Relation.ReflTransGen.mono (r := Move L) (fun _ _ => Move.mono sub) _ _ h

/-- What every move keeps, every run of moves keeps. -/
theorem Moves.keeps {P : Digest → Prop} (step : ∀ d e, Move L d e → P d → P e) (h : Moves L d e) (start : P d) : P e := by
  induction h with
  | refl => exact start
  | tail _ move ih => exact step _ _ move ih

theorem Moves.trans (h : Moves L d e) (g : Moves L e f) : Moves L d f := Relation.ReflTransGen.trans h g

theorem Move.once (h : Move L d e) : Moves L d e := Relation.ReflTransGen.single h

/-- A run of moves from one state to another. -/
def Does (L : Label → Prop) (s t : State) : Prop := Moves L s.digest t.digest

@[refl] theorem Does.refl (s : State) : Does L s s := Moves.refl _

/-- The second of two runs first: it names the state between them. -/
theorem Does.after {s t u : State} (g : Does L t u) (h : Does L s t) : Does L s u := Moves.trans h g

/-- A run from a state with the same digest. -/
theorem Does.since {s t u : State} (g : Does L t u) (same : t.digest = s.digest) : Does L s u := by
  rwa [Does, ← same]

theorem Does.of_eq {s t : State} (same : t.digest = s.digest) : Does L s t := (Does.refl t).since same

/-- A choice between two runs of moves. -/
theorem Does.ite {s t u : State} {c : Prop} [Decidable c] (h : c → Does L s t) (g : ¬ c → Does L s u) :
    Does L s (if c then t else u) := by
  split
  · exact h ‹_›
  · exact g ‹_›

end Sys2Proof.Machine

/-! PROOFS. The operations that leave the digest as it is. -/

namespace Sys2Proof.Machine

variable (s : State)

@[simp] theorem State.digest_setNow (x : Nat) : (s.setNow x).digest = s.digest := rfl
@[simp] theorem State.digest_setMod (x : Modulator) : (s.setMod x).digest = s.digest := rfl
@[simp] theorem State.digest_setDemod (x : Demodulator) : (s.setDemod x).digest = s.digest := rfl
@[simp] theorem State.digest_setBeeper (x : Beeper) : (s.setBeeper x).digest = s.digest := rfl

/-! ## Time, sounds and the flow state -/

@[simp] theorem State.digest_advanceTo (t : Nat) : (s.advanceTo t).digest = s.digest := by simp [State.digest]
@[simp] theorem State.digest_askSound (x : Sound) : (s.askSound x).digest = s.digest := by simp [State.digest]

@[simp] theorem State.digest_evaluateFlow : s.evaluateFlow.digest = s.digest := by
  unfold State.evaluateFlow
  split <;> rfl

/-! ## The Line Assembler -/

theorem Assembler.placeCarried_staged (id : ImageId) (gs : List Glyph) (a : Assembler) :
    (a.placeCarried id gs).stagedDarkness = a.stagedDarkness ∧ (a.placeCarried id gs).stagedWide = a.stagedWide := by
  induction gs generalizing a with
  | nil => exact ⟨rfl, rfl⟩
  | cons g rest ih =>
    unfold Assembler.placeCarried
    split
    · cases id <;> exact ih _
    · exact ⟨rfl, rfl⟩

@[simp] theorem State.digest_openImage : s.openImage.digest = s.digest := by
  have staged : s.openImage.asm.stagedDarkness = s.asm.stagedDarkness
      ∧ s.openImage.asm.stagedWide = s.asm.stagedWide := by
    unfold State.openImage
    (repeat' split)
    · exact ⟨rfl, rfl⟩
    · rename_i id _ _ _
      simp only [State.setAsm_asm, Assembler.placeCarried_staged]
      cases id <;> exact ⟨rfl, rfl⟩
    · exact ⟨rfl, rfl⟩
  simp [State.digest, staged]

@[simp] theorem State.digest_textLineDone : s.textLineDone.digest = s.digest := rfl

@[simp] theorem State.digest_freeImage (id : ImageId) : (s.freeImage id).digest = s.digest := by
  rw [State.freeImage, State.digest_openImage]
  cases id <;> rfl

/-! ## The modulator and the demodulator -/

@[simp] theorem State.digest_toCarrier : s.toCarrier.digest = s.digest := rfl
@[simp] theorem State.digest_beginFrame (f : Format) (code : Byte) (k : FrameKind) (b : Bool) :
    (s.beginFrame f code k b).digest = s.digest := rfl
@[simp] theorem State.digest_startBreak : s.startBreak.digest = s.digest := rfl
@[simp] theorem State.digest_silence : s.silence.digest = s.digest := rfl
@[simp] theorem State.digest_startCarrier : s.startCarrier.digest = s.digest := rfl
@[simp] theorem State.digest_demodAfresh : s.demodAfresh.digest = s.digest := rfl
@[simp] theorem State.digest_samplerStart : s.samplerStart.digest = s.digest := rfl
@[simp] theorem State.digest_samplerStop : s.samplerStop.digest = s.digest := rfl
@[simp] theorem State.digest_demodStop : s.demodStop.digest = s.digest := rfl

@[simp] theorem State.digest_crossing (t : Nat) : (s.crossing t).digest = s.digest := by
  unfold State.crossing
  dsimp only
  (repeat' split) <;> rfl

@[simp] theorem State.digest_sampleOnce : s.sampleOnce.1.digest = s.digest := by simp [State.sampleOnce]

@[simp] theorem State.digest_handCrossing : s.handCrossing.digest = s.digest := by
  unfold State.handCrossing
  (repeat' split) <;> simp

@[simp] theorem State.digest_nextBit : s.nextBit.digest = s.digest := by
  unfold State.nextBit
  split <;> rfl

/-! ## The engine's dot lines -/

@[simp] theorem State.digest_readSense (x : Sense) : (s.readSense x).digest = s.digest := rfl

@[simp] theorem State.digest_takeRun : s.takeRun.digest = s.digest := by
  unfold State.takeRun
  split
  · rename_i id _ _ _
    cases id <;> rfl
  · rfl

@[simp] theorem State.digest_beginDotLine (p : Dots) (bs : List Dots) : (s.beginDotLine p bs).digest = s.digest := rfl

@[simp] theorem State.digest_advanceRun : s.advanceRun.1.digest = s.digest := by
  unfold State.advanceRun
  dsimp only
  (repeat' split)
  · rfl
  · rfl
  · rfl
  · exact State.digest_freeImage _ _
  · rfl

@[simp] theorem State.digest_completeDotLine (d : DotLine) : (s.completeDotLine d).1.digest = s.digest := by
  unfold State.completeDotLine
  dsimp only
  split
  · split <;> rfl
  · rw [State.digest_advanceRun]
    split <;> rfl

@[simp] theorem State.digest_nextPhase (d : DotLine) : (s.nextPhase d).digest = s.digest := rfl

/-! ## The Budget Unit, the Line Interface and the Message Unit -/

@[simp] theorem State.digest_startBarrier : s.startBarrier.digest = s.digest := rfl

@[simp] theorem State.digest_parkReview (before : State) : (State.parkReview before s).digest = s.digest := by
  unfold State.parkReview
  (repeat' split) <;> rfl

/-- What the receiver writes of the Line Interface is none of the digest's. -/
theorem State.digest_setLine_same {l : Line} (h : s.line.Same l) : (s.setLine l).digest = s.digest := by
  rw [Line.Same] at h
  rw [h]
  rfl

@[simp] theorem State.digest_afterWave (wave : Wave) : (s.afterWave wave).digest = s.digest := by
  rw [State.afterWave, State.digest_setLine_same _ (by simpa [State.hear] using Line.hear_same _ _ _), State.digest_advanceTo]

@[simp] theorem State.digest_heard (t : Nat) : (s.heard t).digest = s.digest := by
  rw [← s.digest_advanceTo t]
  rfl

theorem kindsOf_modifyHead (q : List NoticeEntry) (f : NoticeEntry → NoticeEntry) (same : ∀ e, (f e).notice = e.notice) :
    kindsOf (q.modifyHead f) = kindsOf q := by
  cases q <;> simp [kindsOf, same]

@[simp] theorem State.digest_startAttempt (slot : Slot) (bytes : List Byte) :
    (s.startAttempt slot bytes).digest = s.digest := by
  cases slot <;>
    simp [State.startAttempt, Line.countAttempt, State.digest, keyView, claimView, Line.queueView, Option.map_map,
      kindsOf_modifyHead, Function.comp_def] <;> rfl

@[simp] theorem State.digest_endWait (wave : Wave) : (s.endWait wave).digest = s.digest := by
  unfold State.endWait
  dsimp only
  (repeat' split) <;> simp

@[simp] theorem State.digest_setMsg {m : MessageUnit} (h : m.setup = s.msg.setup) : (s.setMsg m).digest = s.digest := by
  simp [State.digest, h]

@[simp] theorem State.digest_openWindow : s.openWindow.digest = s.digest := by
  unfold State.openWindow
  split <;> rfl

@[simp] theorem State.digest_removePresent : s.removePresent.digest = s.digest := by
  rw [State.removePresent, State.digest_openWindow]
  rfl

@[simp] theorem State.digest_textDueNow : s.textDueNow.digest = s.digest := by
  unfold State.textDueNow
  split <;> rfl

@[simp] theorem State.digest_closeWindow : s.closeWindow.digest = s.digest := rfl

@[simp] theorem State.digest_enterDoze : s.enterDoze.digest = s.digest := by
  simp [State.enterDoze, State.digest, Keyboard.dozing, Engine.dozing, Budget.dozing, MessageUnit.stopGathers, Call.view,
    Engine.view, keyView, claimView]

@[simp] theorem State.digest_dozeMoment : s.dozeMoment.digest = s.digest := by
  unfold State.dozeMoment
  split
  · split
    · simp
    · rfl
  · rfl

@[simp] theorem State.digest_gathersWoken : s.gathersWoken.digest = s.digest := by
  unfold State.gathersWoken
  split <;> rfl

end Sys2Proof.Machine

/-! PROOFS. The moves of the shared operations: notices, the pool, characters on their way, the Line Assembler and the engine. -/

namespace Sys2Proof.Machine

variable {L : Label → Prop} (s : State)

/-! ## Single moves on states -/

theorem Does.pool {s t : State} {p : Pool} (h : PoolMove s.call.st.carrying s.pool p)
    (e : t.digest = { s.digest with pool := p }) : Does L s t := by
  rw [Does, e]
  exact (Move.pool (d := s.digest) h).once

theorem Does.call {s t : State} {c : CallView} (h : CallMove L s.call.view c)
    (e : t.digest = { s.digest with call := c }) : Does L s t := by
  rw [Does, e]
  exact (Move.call (d := s.digest) h).once

theorem Does.engine {s t : State} {v : EngineView} (h : EngineMove L s.eng.view v)
    (e : t.digest = { s.digest with engine := v }) : Does L s t := by
  rw [Does, e]
  exact (Move.engine (d := s.digest) h).once

theorem Does.keys {s t : State} {k : KeyView} (h : KeyMove (keyView s.kbd s.line) k)
    (e : t.digest = { s.digest with keys := k }) : Does L s t := by
  rw [Does, e]
  exact (Move.keys (d := s.digest) h).once

theorem Does.claim {s t : State} {v : ClaimView} (h : ClaimMove L (claimView s.bud s.line) v)
    (e : t.digest = { s.digest with claim := v }) : Does L s t := by
  rw [Does, e]
  exact (Move.claim (d := s.digest) h).once

theorem Does.queues {s t : State} {q : QueueView} (h : QueueMove L s.line.queueView q)
    (e : t.digest = { s.digest with queues := q }) : Does L s t := by
  rw [Does, e]
  exact (Move.queues (d := s.digest) h).once

/-! ## Notices -/

theorem NoticeEntry.renew_kind (e : NoticeEntry) (n : Notice) (dest : Addr) (b : Bool) :
    (e.renew n dest b).notice.kind = n.kind := by
  unfold NoticeEntry.renew Notice.renewed
  dsimp only
  split <;> rfl

/-- A notice replaces the queued one of its kind, or joins at the tail. -/
theorem kindsOf_postNotice (q : List NoticeEntry) (n : Notice) (dest : Addr) (b : Bool) :
    kindsOf (postNotice q n dest b) = if n.kind ∈ kindsOf q then kindsOf q else kindsOf q ++ [n.kind] := by
  induction q generalizing b with
  | nil => rfl
  | cons e rest ih =>
    unfold postNotice
    by_cases h : e.notice.kind = n.kind
    · simp [kindsOf, h, NoticeEntry.renew_kind]
    · have ne : n.kind ≠ e.notice.kind := fun k => h k.symm
      have tail := ih false
      unfold kindsOf at tail ⊢
      rw [if_neg h, List.map_cons, tail]
      simp only [List.map_cons, List.mem_cons, ne, false_or]
      split <;> rfl

theorem State.askNotice_does (n : Notice) : Does L s (s.askNotice n) := by
  unfold State.askNotice
  split
  · rfl
  · split
    · rfl
    · rename_i dest _
      have kinds := kindsOf_postNotice s.line.notices n dest (s.line.carrying .notice)
      split at kinds
      · refine .of_eq ?_
        simp [State.digest, keyView, claimView, Line.queueView, kinds]
      · refine .queues (q := { s.line.queueView with notices := s.line.queueView.notices ++ [n.kind] }) (.posted _ ‹_›) ?_
        simp [State.digest, keyView, claimView, Line.queueView, kinds]

/-! ## The pool -/

theorem State.changePool_digest (p : Pool) : (s.changePool p).digest = { s.digest with pool := p } := by
  unfold State.changePool
  dsimp only
  split
  · rfl
  · rw [State.digest_evaluateFlow]
    rfl

theorem State.storeCell_does {s s' : State} {c : Chain} {cell : Cell} (h : s.storeCell c cell = some s')
    (inCall : c = .txq → s.call.st.carrying = true) : Does L s s' := by
  simp only [State.storeCell, Option.map_eq_some_iff] at h
  obtain ⟨p, stored, rfl⟩ := h
  exact .pool (.store inCall stored) (s.changePool_digest p)

theorem State.storeBody_does {s s' : State} {c : Chain} {body : List Byte} (h : s.storeBody c body = some s')
    (inCall : c = .txq → s.call.st.carrying = true) : Does L s s' := by
  simp only [State.storeBody, Option.map_eq_some_iff] at h
  obtain ⟨p, stored, rfl⟩ := h
  exact .pool (.body inCall stored) (s.changePool_digest p)

theorem State.takeCell_does {s s' : State} {c : Chain} {cell : Cell} (h : s.takeCell c = some (cell, s'))
    (notFwq : c ≠ .fwq) : Does L s s' := by
  simp only [State.takeCell, Option.map_eq_some_iff] at h
  obtain ⟨⟨cell', p⟩, taken, e⟩ := h
  cases e
  exact .pool (.take notFwq taken) (s.changePool_digest p)

theorem State.markLost_does (c : Chain) : Does L s (s.markLost c) := .pool (.lost c) rfl

theorem State.takeText_digest (n : Nat) : (s.takeText n).digest = { s.digest with pool := s.pool.takeCells n } := by
  induction n generalizing s with
  | zero => rfl
  | succ n ih =>
    unfold State.takeText Pool.takeCells
    cases h : s.pool.take .fwq with
    | none => simp [State.takeCell, h]; rfl
    | some r =>
      simp only [State.takeCell, h, Option.map_some]
      rw [ih, State.changePool_digest]
      have : (s.changePool r.2).pool = r.2 := congrArg Digest.pool (s.changePool_digest r.2)
      rw [this]

/-! ## What the modulator begins -/

theorem State.chooseNext_does (b : Bool) : Does L s (s.chooseNext b) := by
  unfold State.chooseNext
  (repeat' split)
  · exact .refl _
  · exact .refl _
  · exact .refl _
  · next taken => exact .after (.of_eq (State.digest_beginFrame _ _ _ _ _)) (State.takeCell_does taken (by decide))
  · exact .refl _
  · exact .refl _

theorem State.arrival_does : Does L s s.arrival := .ite (fun _ => s.chooseNext_does true) fun _ => .refl _

theorem State.openImage_arrival_does : Does L s s.openImage.arrival :=
  (State.arrival_does _).since s.digest_openImage

theorem State.flowComplete_does (c : FlowCode) : Does L s (s.flowComplete c) := by
  have asked (t : State) (same : t.digest = s.digest) : Does L s (t.askNotice (.flow c.sentEvent)) :=
    (State.askNotice_does _ _).since same
  exact .after (.of_eq (State.digest_evaluateFlow _)) (asked _ rfl)

theorem State.frameEnd_does (f : Frame) : Does L s (s.frameEnd f) := by
  unfold State.frameEnd
  cases f.kind with
  | flow c =>
    refine .ite (fun _ => ?_) fun _ => ?_
    · exact s.flowComplete_does c
    · exact .after (State.chooseNext_does _ _) (s.flowComplete_does c)
  | cell =>
    refine .ite (fun _ => ?_) fun _ => ?_
    · exact .refl s
    · exact (State.chooseNext_does _ _).since rfl

theorem State.takeBreak_does (online : s.call.st = .online) : Does L s s.takeBreak :=
  .ite (fun _ => .call (.breakBegun online) rfl) fun _ => .call (.breakBegun online) rfl

/-! ## Characters on their way -/

theorem State.offerReceived_does (c : Chain) (cell : Cell) (notTxq : c ≠ .txq) : Does L s (s.offerReceived c cell) := by
  unfold State.offerReceived
  split
  · next stored => exact State.storeCell_does stored (absurd · notTxq)
  · exact s.markLost_does c

theorem State.routeReceived_does (cell : Cell) : Does L s (s.routeReceived cell) := by
  have printed : Does L s (if s.copiesToPrinter then s.offerReceived .prq cell else s) :=
    .ite (fun _ => s.offerReceived_does _ _ (by decide)) fun _ => .refl _
  refine .after (State.openImage_arrival_does _) ?_
  exact .ite (fun _ => .after (State.offerReceived_does _ _ _ (by decide)) printed) fun _ => printed

theorem State.flowReceived_does (c : FlowCode) : Does L s (s.flowReceived c) :=
  .after (State.arrival_does _) ((State.askNotice_does _ _).since rfl)

theorem State.receiveItem_does (cell : Cell) : Does L s (s.receiveItem cell) := by
  unfold State.receiveItem
  split
  · exact s.flowReceived_does _
  · exact s.routeReceived_does cell

theorem State.reportDiscard_does : Does L s s.reportDiscard := by
  have printed : Does L s (if s.copiesToPrinter then s.markLost .prq else s) :=
    .ite (fun _ => s.markLost_does _) fun _ => .refl _
  exact .ite (fun _ => .after (State.markLost_does _ _) printed) fun _ => printed

theorem State.echoKey_does (code : Byte) : Does L s (s.echoKey code) := by
  unfold State.echoKey
  (repeat' split)
  · next stored => exact State.storeCell_does stored nofun
  · exact s.markLost_does _
  · exact .refl _

theorem State.askSound_does (x : Sound) : Does L s (s.askSound x) := .of_eq (s.digest_askSound x)

theorem State.keyToPrinter_does (code : Byte) : Does L s (s.keyToPrinter code) := by
  unfold State.keyToPrinter
  split
  · next stored => exact .after (State.openImage_arrival_does _) (State.storeCell_does stored nofun)
  · exact s.askSound_does _

theorem State.keyToLine_does (code : Byte) : Does L s (s.keyToLine code) := by
  unfold State.keyToLine
  split
  · next inCall =>
    split
    · next stored =>
      exact .after (State.openImage_arrival_does _)
        (.after (State.echoKey_does _ _) (State.storeCell_does stored fun _ => inCall))
    · exact s.askSound_does _
  · exact s.askSound_does _

theorem State.keyedChar_does (code : Byte) : Does L s (s.keyedChar code) := by
  unfold State.keyedChar
  (repeat' split)
  · exact s.keyToPrinter_does code
  · exact .refl _
  · exact s.keyToLine_does code

theorem State.printTextRule_does (body : List Byte) : Does L s (s.printTextRule body).1 := by
  unfold State.printTextRule
  (repeat' split)
  · exact .refl _
  · next stored => exact .after (State.openImage_arrival_does _) (State.storeBody_does stored nofun)
  · exact .refl _

theorem State.echoBody_does (body : List Byte) : Does L s (s.echoBody body) := by
  unfold State.echoBody
  (repeat' split)
  · next stored => exact State.storeBody_does stored nofun
  · exact s.markLost_does _
  · exact .refl _

theorem State.sendTextRule_does (body : List Byte) : Does L s (s.sendTextRule body).1 := by
  unfold State.sendTextRule
  (repeat' split)
  · exact .refl _
  · exact .refl _
  · next inCall _ _ _ stored =>
    exact .after (State.openImage_arrival_does _)
      (.after (State.echoBody_does _ _) (State.storeBody_does stored fun _ => by simpa using inCall))
  · exact .refl _

/-! ## The engine -/

theorem State.setEngineState_digest (st : EngineState) :
    (s.setEngineState st).digest = { s.digest with engine := { s.eng.view with st := st } } := by
  unfold State.setEngineState
  split
  · subst st
    rfl
  · rfl

theorem State.goes_does (st : EngineState) (free : s.eng.st ≠ .held ∨ s.eng.holds.any = false) (notHeld : st ≠ .held) :
    Does L s (s.setEngineState st) :=
  .engine (.goes st free notHeld) (s.setEngineState_digest st)

theorem HoldSet.highest_eq_none_iff (h : HoldSet) : h.highest = none ↔ h.any = false := by
  simp [HoldSet.highest, HoldSet.any, HoldSet.has, and_assoc]

theorem HoldSet.has_of_highest {h : HoldSet} {c : Hold} (e : h.highest = some c) : h.has c = true := by
  simpa using List.find?_some e

/-- Entry to HELD, from whatever the set, the cause and the state were. -/
theorem State.enterHeld_does {s u : State} (h : HoldSet) (motor : u.eng.motorPhase = s.eng.motorPhase)
    (same : u.digest = { s.digest with engine := u.eng.view }) (any : h.any = true) : Does L s (u.enterHeld h) := by
  unfold State.enterHeld
  split
  · next none => exact absurd ((HoldSet.highest_eq_none_iff h).1 none) (by simp [any])
  · next c highest =>
    refine .after (State.askNotice_does _ _) (.engine (.held highest) ?_)
    calc _ = { u.digest with engine := { u.eng.view with st := .held, holds := h, cause := some c } } :=
          State.setEngineState_digest _ _
      _ = _ := by rw [same]; simp [Engine.view, motor]

theorem State.applyHolds_does (h : HoldSet) (any : h.any = true) : Does L s (s.applyHolds h) := by
  have ended : (stepEnded s.eng.step h).any = true := by
    unfold stepEnded
    split
    · exact any
    · simp [HoldSet.any]
  unfold State.applyHolds
  split
  · rename_i present
    unfold State.keepHeld
    split
    · rfl
    · rename_i c highest
      have kept := EngineMove.kept (L := L) (e := s.eng.view) present (HoldSet.has_of_highest highest)
      split
      · rename_i old cause
        split
        · rename_i has
          refine .engine (.kept present has) ?_
          simp [State.digest, Engine.view, cause]
        · exact .after (State.askNotice_does _ _) (.engine kept rfl)
      · exact .after (State.askNotice_does _ _) (.engine kept rfl)
  · exact State.enterHeld_does _ rfl rfl ended

theorem State.raiseBudgetHold_does : Does L s s.raiseBudgetHold :=
  s.applyHolds_does _ (by simp [HoldSet.any])

end Sys2Proof.Machine

/-! PROOFS. The moves of the Budget Unit, the Print Engine and the Line Assembler. -/

namespace Sys2Proof.Machine

variable {L : Label → Prop} (s : State)

/-! ## The Budget Unit -/

theorem Line.handClaim_handed (l : Line) (mA : Nat) :
    Handed mA (l.claimSlot.map ClaimSlot.values) ((l.handClaim mA).claimSlot.map ClaimSlot.values) := by
  unfold Line.handClaim
  cases l.claimSlot with
  | none => exact .taken _
  | some c =>
    dsimp only
    split
    · exact .waiting _ _
    · exact .taken _

@[simp] theorem Line.handClaim_frame (l : Line) (mA : Nat) :
    (l.handClaim mA).addr = l.addr ∧ (l.handClaim mA).fast = l.fast ∧ (l.handClaim mA).replies = l.replies
      ∧ (l.handClaim mA).notices = l.notices ∧ (l.handClaim mA).keysSlot = l.keysSlot
      ∧ (l.handClaim mA).listenOnly = l.listenOnly := by
  unfold Line.handClaim
  (repeat' split) <;> simp

@[simp] theorem State.handClaim_line (mA : Nat) : (s.handClaim mA).line = s.line.handClaim mA := rfl

@[simp] theorem State.handClaim_bud (mA : Nat) :
    (s.handClaim mA).bud = { s.bud with own := mA, restateTimer := if mA = 0 then none else s.bud.restateTimer } := rfl

theorem State.handClaim_digest (mA : Nat) :
    (s.handClaim mA).digest = { s.digest with claim :=
      { claimView s.bud s.line with own := mA, slot := (s.line.handClaim mA).claimSlot.map ClaimSlot.values } } := by
  simp [State.digest, claimView, keyView, Line.queueView]

theorem State.setGranted_does (mA : Nat) (cause : BudgetCause) :
    Does L (s.setBud { s.bud with granted := mA }) (s.setGranted mA cause) :=
  .ite (fun _ => .refl _) fun _ => State.askNotice_does _ _

theorem Raise.isNone_iff (r : Raise) : r.isNone = true ↔ r = .none := by cases r <;> simp [Raise.isNone]

theorem State.raiseTest_does : Does L s s.raiseTest := by
  unfold State.raiseTest
  split
  · next begun =>
    simp only [State.raisePassedOver, State.raiseWanted, Bool.and_eq_true, Bool.not_eq_true', Bool.or_eq_false_iff,
      Bool.not_eq_false', Bool.or_eq_true, decide_eq_true_eq, Raise.isNone_iff] at begun
    obtain ⟨⟨⟨⟨free, -⟩, -⟩, -⟩, ⟨⟨-, -⟩, meets⟩, above⟩ := begun
    have granted : s.bud.granted ≤ s.desired := by omega
    exact .claim (.raised free granted (s.line.handClaim_handed s.desired)) (State.handClaim_digest _ _)
  · exact .refl _

theorem State.budgetReview_does (before : State) : Does L s (State.budgetReview before s) :=
  .ite (fun _ => .refl _) fun _ => s.raiseTest_does

theorem floor10_le (a : Nat) : floor10 a ≤ a := Nat.div_mul_le_self a 10

/-- The outcome of a settle grants no more than the value settled, and hands what it grants where it hands at all (R164). -/
theorem settleOutcome_le (c available need : Nat) :
    (settleOutcome c available need).1 ≤ c
      ∧ ∀ v, (settleOutcome c available need).2 = some v → v = (settleOutcome c available need).1 := by
  have := floor10_le available
  unfold settleOutcome
  (repeat' split) <;> simp <;> omega

theorem State.settleEnd_does (c : Nat) (settling : s.bud.raise = .settling c) : Does L s (s.settleEnd c) := by
  obtain ⟨le, handed⟩ := settleOutcome_le c s.available s.need
  have within : (settleOutcome c s.available s.need).1 ≤ (claimView s.bud s.line).drawn := by
    simp only [ClaimView.drawn, claimView, settling]
    omega
  refine .after (State.setGranted_does _ _ _) ?_
  cases hands : (settleOutcome c s.available s.need).2 with
  | none => exact .claim (.settled within) rfl
  | some v =>
    obtain rfl := handed v hands
    refine .claim (.lowered within (s.line.handClaim_handed _)) ?_
    simp [State.digest, State.startBarrier, claimView, Budget.abandonRaise, keyView, Line.queueView]

theorem State.lowerAtStart_does : Does L s s.lowerAtStart := by
  unfold State.lowerAtStart
  split
  · next lower =>
    have short : s.available < s.bud.granted := by simpa using (Bool.and_eq_true_iff.1 lower).2
    have within : floor10 s.available ≤ (claimView s.bud s.line).drawn := by
      have := floor10_le s.available
      simp only [ClaimView.drawn, claimView]
      split <;> omega
    refine .after (State.setGranted_does _ _ _) (.claim (.lowered within (s.line.handClaim_handed _)) ?_)
    simp [State.digest, State.startBarrier, claimView, Budget.abandonRaise, keyView, Line.queueView]
  · exact .refl _

theorem State.releaseClaim_does (hand : Bool) (cause : BudgetCause) : Does L s (s.releaseClaim hand cause) := by
  refine .after (State.setGranted_does _ _ _) ?_
  cases hand with
  | false => exact .claim .released rfl
  | true =>
    refine .claim (.lowered (Nat.zero_le _) (s.line.handClaim_handed 0)) ?_
    simp [State.digest, claimView, Budget.abandonRaise, keyView, Line.queueView]

theorem State.dozeRelease_does : Does L s s.dozeRelease := .after (.of_eq rfl) (s.releaseClaim_does _ .doze)

theorem State.restate_does : Does L s s.restate := by
  unfold State.restate
  dsimp only
  (repeat' split)
  · exact .of_eq rfl
  · exact .of_eq rfl
  · refine .claim (.restated (s.line.handClaim_handed s.bud.own)) ?_
    rw [State.handClaim_digest]
    rfl

theorem State.claimSent_does (label : L .claimSent) : Does L s s.claimSent := by
  unfold State.claimSent
  split
  · exact .refl _
  · next c slot =>
    refine .claim (.sent label (mA := c.mA) (next := c.next) (by simp [claimView, slot, ClaimSlot.values])) ?_
    unfold State.claimCompleted
    cases raise : s.bud.raise <;> cases next : c.next <;>
      simp [State.digest, claimView, keyView, Line.queueView, raiseSent, ClaimSlot.following, ClaimSlot.values, raise, next]

theorem State.claimFailed_does : Does L s s.claimFailed := by
  unfold State.claimFailed
  split
  · exact .refl _
  · next c slot =>
    cases next : c.next with
    | some v =>
      refine .claim (.followed (mA := c.mA) (next := v) (by simp [claimView, slot, ClaimSlot.values, next])) ?_
      simp [State.digest, claimView, keyView, Line.queueView, ClaimSlot.following, ClaimSlot.values, next]
    | none =>
      refine .ite (fun h => nomatch h) fun _ => .ite (fun _ => ?_) fun _ => .refl _
      cases raise : s.bud.raise with
      | asking v =>
        refine .claim .abandoned ?_
        simp [State.claimDiscarded, State.digest, claimView, keyView, Line.queueView, raise]
      | none =>
        refine .claim (.dropped (by simp [claimView, raise])) ?_
        simp [State.claimDiscarded, State.digest, claimView, keyView, Line.queueView, raise]
      | settling v =>
        refine .claim (.dropped (by simp [claimView, raise])) ?_
        simp [State.claimDiscarded, State.digest, claimView, keyView, Line.queueView, raise]

/-! ## The Print Engine -/

theorem State.budgetAndPack_does : Does L s s.budgetAndPack := by
  unfold State.budgetAndPack
  dsimp only
  (repeat' split)
  · exact .after (State.raiseBudgetHold_does _) s.lowerAtStart_does
  · exact .after (.of_eq (State.digest_beginDotLine _ _ _)) s.lowerAtStart_does
  · exact .after (State.raiseBudgetHold_does _) s.lowerAtStart_does

theorem State.sampleStage_does (x : Sense) : Does L s (s.sampleStage x) := by
  have read : (s.takeRun.readSense x).digest = s.digest := by simp
  unfold State.sampleStage
  exact .ite (fun any => (State.applyHolds_does _ _ any).since read) fun _ => (State.budgetAndPack_does _).since read

theorem State.goOn_does (x : Sense) (free : s.eng.holds.any = false) : Does L s (s.goOn x) :=
  .ite (fun _ => s.sampleStage_does x) fun _ => s.goes_does _ (.inr free) (by decide)

theorem State.endDotLine_does (d : DotLine) (x : Sense) : Does L s (s.endDotLine d x) := by
  unfold State.endDotLine
  dsimp only
  split
  · next any => exact (State.applyHolds_does _ _ any).since (State.digest_completeDotLine _ _)
  · next none =>
    refine (State.goOn_does _ x ?_).since (State.digest_completeDotLine _ _)
    simp_all [HoldSet.any]

theorem State.startItem_does (x : Sense) : Does L s (s.startItem x) := by
  unfold State.startItem
  (repeat' split)
  · exact s.raiseBudgetHold_does
  · exact (State.endDotLine_does _ _ x).since rfl
  · exact .of_eq rfl
  · exact s.sampleStage_does x

theorem State.workTest_does (x : Sense) (free : s.eng.st ≠ .held ∨ s.eng.holds.any = false) :
    Does L s (s.workTest x) := by
  unfold State.workTest
  split
  · exact s.goes_does _ free (by decide)
  · exact .after (State.startItem_does _ x) (s.goes_does _ free (by decide))
  · exact s.goes_does _ free (by decide)
  · exact s.raiseBudgetHold_does

/-- The set emptied and the engine in a state that the work test enters. -/
theorem State.resumed_does (st : EngineState) (notHeld : st ≠ .held) :
    Does L s ((s.setEng { s.eng with holds := {}, cause := none }).setEngineState st) :=
  .engine (.resumed st notHeld) (State.setEngineState_digest _ _)

theorem State.leaveHeld_does (x : Sense) : Does L s (s.leaveHeld x) := by
  unfold State.leaveHeld
  dsimp only
  split
  · exact .after (State.askNotice_does _ _) (s.resumed_does _ (by decide))
  · exact .after (State.startItem_does _ x) (.after (State.askNotice_does _ _) (s.resumed_does _ (by decide)))
  · exact .after (State.askNotice_does _ _) (s.resumed_does _ (by decide))
  · refine State.enterHeld_does (u := s.setEng { s.eng with holds := {}, cause := none }) _ rfl rfl ?_
    unfold stepEnded
    split <;> simp [HoldSet.any]

theorem State.changeHolds_does (h : HoldSet) (x : Sense) : Does L s (s.changeHolds h x) :=
  .ite (fun any => s.applyHolds_does h any) fun _ => .ite (fun _ => s.leaveHeld_does x) fun _ => .refl _

theorem State.workAppears_does (x : Sense) : Does L s (s.workAppears x) :=
  .ite (fun _ => .refl _) fun free => s.workTest_does x (.inr (by simp_all))

theorem State.sampleNow_does (x : Sense) : Does L s (s.sampleNow x) :=
  .ite (fun any => (State.applyHolds_does _ _ any).since rfl) fun _ => .of_eq rfl

theorem State.watch_does (x : Sense) : Does L s (s.watch x) := by
  unfold State.watch
  dsimp only
  (repeat' split)
  · next any => exact (State.applyHolds_does _ _ any).since rfl
  · exact (State.leaveHeld_does _ x).since rfl
  · next free => exact (State.workTest_does _ x (.inr (by simpa using free))).since rfl

theorem State.settleReport_does (x : Sense) : Does L s (s.settleReport x) := by
  unfold State.settleReport
  (repeat' split)
  · exact .of_eq rfl
  · exact s.changeHolds_does _ x
  · exact s.raiseBudgetHold_does
  · next free _ => exact s.workTest_does x (.inr (by simpa using free))

theorem State.engineListenOnly_does (x : Sense) : Does L s (s.engineListenOnly x) := by
  unfold State.engineListenOnly
  dsimp only
  (repeat' split)
  · exact (State.changeHolds_does _ _ x).since rfl
  · next claiming => exact (State.workTest_does _ x (.inl (by rw [claiming]; decide))).since rfl
  · exact .of_eq rfl

theorem State.holdRule_does : Does L s s.holdRule.1 := by
  unfold State.holdRule
  (repeat' split)
  · exact .refl _
  · exact .of_eq rfl
  · exact s.applyHolds_does _ (by simp [HoldSet.any])

theorem State.resumeRule_does (x : Sense) : Does L s (s.resumeRule x).1 := by
  unfold State.resumeRule
  split
  · exact (State.changeHolds_does _ _ x).since rfl
  · exact .refl _

theorem State.cutDotLine_does (label : L .motor) : Does L s s.cutDotLine := by
  unfold State.cutDotLine
  split
  · exact .refl _
  · next d _ =>
    refine .engine (.motor label (if d.starting then s.eng.motorPhase + 1 else s.eng.motorPhase)) ?_
    cases d.shifted <;> rfl

theorem State.stopNowRule_does (label : L .motor) : Does L s s.stopNowRule.1 :=
  .after ((State.applyHolds_does _ _ (by simp [HoldSet.any])).since rfl) (s.cutDotLine_does label)

theorem State.stepLineRule_does (x : Sense) : Does L s (s.stepLineRule x).1 := by
  unfold State.stepLineRule
  split
  · exact (State.leaveHeld_does _ x).since rfl
  · exact .refl _

theorem State.rawDotLineRule_does (body : List Byte) (x : Sense) : Does L s (s.rawDotLineRule body x).1 := by
  unfold State.rawDotLineRule
  split
  · exact (State.leaveHeld_does _ x).since rfl
  · exact .refl _

theorem State.setDarknessRule_does (label : L .darkness) (v : Byte) : Does L s (s.setDarknessRule v).1 :=
  (Move.darkness label _).once

theorem State.setWidthRule_does (label : L .width) (v : Byte) : Does L s (s.setWidthRule v).1 := (Move.wide label _).once

theorem State.paperFeed_does (x : Sense) : Does L s (s.paperFeed x) :=
  .ite (fun _ => (State.workAppears_does _ x).since rfl) fun _ => s.askSound_does _

theorem State.halfStep_does (label : L .motor) (d : DotLine) : Does L s (s.halfStep d) := .engine (.motor label _) rfl

/-! ## The Line Assembler -/

theorem State.closeImage_does (id : ImageId) (blanks : Nat) (x : Sense) : Does L s (s.closeImage id blanks x) := by
  refine .after (.of_eq (State.digest_openImage _)) ((State.workAppears_does _ x).since ?_)
  cases id <;> rfl

theorem State.place_does (id : ImageId) (g : Glyph) : Does L s (s.place id g).1 := by
  unfold State.place
  (repeat' split)
  · exact .refl _
  · cases id <;> exact .of_eq rfl
  · exact .of_eq rfl
  · exact .refl _

theorem State.wrap_does (id : ImageId) (carried : List Glyph) (x : Sense) : Does L s (s.wrap id carried x) :=
  (State.closeImage_does _ id 0 x).since rfl

theorem State.placeOrWrap_does (id : ImageId) (g : Glyph) (x : Sense) : Does L s (s.placeOrWrap id g x) := by
  have placed : Does L s (s.place id g).1 := s.place_does id g
  unfold State.placeOrWrap
  split
  · next e => rwa [e] at placed
  · next e =>
    rw [e] at placed
    exact .after (State.wrap_does _ id _ x) placed

theorem State.takeCr_does (id : ImageId) (x : Sense) : Does L s (s.takeCr id x) :=
  .ite (fun _ => .of_eq rfl) fun _ => (State.closeImage_does _ id 0 x).since rfl

theorem State.takeLf_does (id : ImageId) (x : Sense) : Does L s (s.takeLf id x) :=
  .ite (fun _ => .of_eq rfl) fun _ => (State.closeImage_does _ id 0 x).since rfl

theorem State.takeFf_does (id : ImageId) (x : Sense) : Does L s (s.takeFf id x) :=
  (State.closeImage_does _ id _ x).since rfl

theorem State.takeHt_does (id : ImageId) (x : Sense) : Does L s (s.takeHt id x) :=
  .ite (fun _ => .of_eq rfl) fun _ => .ite (fun _ => .of_eq rfl) fun _ => (State.closeImage_does _ id 0 x).since rfl

theorem State.actOn_does (id : ImageId) (act : CellAction) (x : Sense) : Does L s (s.actOn id act x) := by
  cases act with
  | glyph g => exact s.placeOrWrap_does id g x
  | bell => exact s.askSound_does _
  | backspace => exact .of_eq rfl
  | tab => exact s.takeHt_does id x
  | lineFeed => exact s.takeLf_does id x
  | formFeed => exact s.takeFf_does id x
  | carriageReturn => exact s.takeCr_does id x
  | ignored => exact .refl _

theorem State.handleCell_does (id : ImageId) (c : Cell) (x : Sense) : Does L s (s.handleCell id c x) := by
  have placed : Does L s (s.place id .lost).1 := s.place_does id .lost
  unfold State.handleCell
  dsimp only
  (repeat' split)
  · next e =>
    rw [e] at placed
    exact .after (State.actOn_does _ id _ x) placed
  · next e =>
    rw [e] at placed
    exact .after (State.wrap_does _ id _ x) placed
  · exact s.actOn_does id _ x

theorem State.takePrq_does (x : Sense) : Does L s (s.takePrq x) := by
  have opened : Does L s s.openImage := .of_eq s.digest_openImage
  unfold State.takePrq
  dsimp only
  (repeat' split)
  · exact opened
  · exact opened
  · next s1 taken =>
    refine .after (State.arrival_does _) (.after (t := s1) ((State.handleCell_does _ _ _ x).since rfl) ?_)
    exact .after (State.takeCell_does taken (by decide)) opened
  · exact opened

theorem State.idleFlush_does (x : Sense) : Does L s (s.idleFlush x) := by
  unfold State.idleFlush
  dsimp only
  (repeat' split)
  · exact .of_eq rfl
  · exact .of_eq rfl
  · exact (State.closeImage_does _ _ 0 x).since rfl

end Sys2Proof.Machine

/-! PROOFS. The moves of the Call Controller, the Keyboard Scanner, the Line Interface and the Message Unit. -/

namespace Sys2Proof.Machine

variable {L : Label → Prop} (s : State)

/-! ## The Call Controller -/

theorem State.enterDropping_does (cause : DropCause) : Does L s (s.enterDropping cause) := by
  have dropped (t : State) (same : t.digest = { s.digest with
      call := { s.call.view with st := .dropping, muted := false, breaking := false }
      pool := s.pool.discard .txq }) : Does L s t := by
    rw [Does, same]
    exact Move.dropping.once
  exact .after (State.askNotice_does _ _) (dropped _ (State.changePool_digest _ _))

theorem State.silenceEnd_does (dropping : s.call.st = .dropping) : Does L s s.silenceEnd :=
  .call (.rested (.inl dropping)) rfl

theorem State.enterOnline_does (qualified : s.call.st = .origWait ∨ s.call.st = .ansTone) : Does L s s.enterOnline := by
  have online : s.call.view.st = .origWait ∨ s.call.view.st = .ansTone ∨ s.call.view.st = .fading :=
    qualified.imp_right .inl
  unfold State.enterOnline
  refine .after (State.arrival_does _) ?_
  cases s.call.params with
  | none =>
    refine .call (.online online) ?_
    rw [State.digest_evaluateFlow]
    split <;> rfl
  | some p =>
    refine .after (State.askNotice_does _ _) (.call (.online online) ?_)
    rw [State.digest_evaluateFlow]
    split <;> rfl

theorem State.enterFading_does (online : s.call.st = .online) : Does L s s.enterFading := by
  have reported : Does L s (if s.demod.sampler.assembling then s.reportDiscard else s) :=
    .ite (fun _ => s.reportDiscard_does) fun _ => .refl _
  have call : (if s.demod.sampler.assembling then s.reportDiscard else s).call.st = .online := by split <;> simpa using online
  exact .after (.call (.fading call) rfl) reported

theorem State.carrierReturn_does (fading : s.call.st = .fading) : Does L s s.carrierReturn := by
  refine .after (State.arrival_does _) (.call (.online (.inr (.inr fading))) ?_)
  rw [State.digest_evaluateFlow]
  rfl

theorem State.verdict_does (present : Bool) : Does L s (s.verdict present) := by
  unfold State.verdict
  split
  · next waits => exact .ite (fun _ => s.enterOnline_does (.inl waits)) fun _ => .refl _
  · next answers => exact .ite (fun _ => s.enterOnline_does (.inr answers)) fun _ => .refl _
  · next online =>
    refine .ite (fun _ => .of_eq rfl) fun _ => ?_
    have timed (c : Prop) [Decidable c] (fade : Timer) :
        (if c then s.setCall { s.call with fade := fade } else s).digest = s.digest
          ∧ (if c then s.setCall { s.call with fade := fade } else s).call.st = .online := by
      split
      · exact ⟨rfl, online⟩
      · exact ⟨rfl, online⟩
    exact .ite (fun _ => (State.enterFading_does _ (timed _ _).2).since (timed _ _).1) fun _ => .of_eq (timed _ _).1
  · next fading => exact .ite (fun _ => s.carrierReturn_does fading) fun _ => .refl _
  · exact .refl _

theorem State.windowEnd_does : Does L s s.windowEnd := (State.verdict_does _ _).since rfl

theorem State.unseat_does (label : L .cups) : Does L s s.unseat := by
  have lifted (t : State) (same : t.digest = { s.digest with call := { s.call.view with
      seated := false, st := if s.call.st = .ready then .idle else s.call.st } }) : Does L s t := .call (.lifted label) same
  have muted (t u : State) (same : t.digest = { s.digest with call := { s.call.view with
      seated := false, st := if s.call.st = .ready then .idle else s.call.st } }) (inCall : t.call.st.carrying = true)
      (mutes : u.digest = { t.digest with call := { t.call.view with muted := true } }) : Does L s u :=
    .after (.call (.muted inCall) mutes) (lifted t same)
  unfold State.unseat
  dsimp only
  split
  · next st => exact .after (State.askNotice_does _ _) (lifted _ (by simp [State.digest, Call.view, st]))
  · next st => exact .after (State.askNotice_does _ _) (lifted _ (by simp [State.digest, Call.view, st]))
  · next st => exact lifted _ (by simp [State.digest, Call.view, st])
  · next st =>
    exact .after (State.enterDropping_does _ _) (.after (State.askNotice_does _ _) (lifted _ (by simp [State.digest, Call.view, st])))
  · next st =>
    exact .after (State.enterDropping_does _ _) (.after (State.askNotice_does _ _) (lifted _ (by simp [State.digest, Call.view, st])))
  · next st =>
    exact .after (State.askNotice_does _ _) (muted (s.setCall { s.call with seated := false, filter := 0 }) _
      (by simp [State.digest, Call.view, st]) (by simp [st, CallState.carrying]) rfl)
  · next st =>
    exact .after (State.askNotice_does _ _) (muted (s.setCall { s.call with seated := false, filter := 0 }) _
      (by simp [State.digest, Call.view, st]) (by simp [st, CallState.carrying]) rfl)
  · next st => exact .after (State.askNotice_does _ _) (lifted _ (by simp [State.digest, Call.view, st]))

theorem State.unmute_does : Does L s s.unmute :=
  .ite (fun _ => .after (State.arrival_does _) (.after (State.askNotice_does _ _) (.call .unmuted rfl)))
    fun _ => State.askNotice_does _ _

theorem State.seat_does (label : L .cups) : Does L s s.seat := by
  have seated (t : State) (same : t.digest = { s.digest with call := { s.call.view with
      seated := true, st := if s.call.st = .idle then .ready else s.call.st } }) : Does L s t := .call (.seated label) same
  unfold State.seat
  dsimp only
  split
  · next st => exact .after (State.askNotice_does _ _) (seated _ (by simp [State.digest, Call.view, st]))
  · next st => exact seated _ (by simp [State.digest, Call.view, st])
  · next st => exact .after (State.unmute_does _) (seated _ (by simp [State.digest, Call.view, st]))
  · next st => exact .after (State.unmute_does _) (seated _ (by simp [State.digest, Call.view, st]))
  · next st _ _ _ => exact .after (State.askNotice_does _ _) (seated _ (by simp [State.digest, Call.view, if_neg st]))

theorem State.readCups_does (label : L .cups) (a b : Bool) : Does L s (s.readCups a b) := by
  unfold State.readCups
  dsimp only
  (repeat' split)
  · exact .of_eq rfl
  · exact (State.unseat_does _ label).since rfl
  · exact (State.seat_does _ label).since rfl
  · exact .of_eq rfl
  · exact .of_eq rfl

theorem State.cupReading_does (label : L .cups) (a b : Bool) : Does L s (s.cupReading a b) := by
  unfold State.cupReading
  split
  · exact .refl _
  · exact .after ((State.readCups_does _ label a b).since rfl) (.of_eq (s.digest_advanceTo _))

theorem State.startLoop_does (free : s.call.st = .idle ∨ s.call.st = .ready) : Does L s s.startLoop :=
  .call (.looped free) rfl

theorem State.endLoop_does (inLoop : s.call.st = .loop) (sent mismatches : Nat) (aborted : Bool) :
    Does L s (s.endLoop sent mismatches aborted) := by
  have ended (n : Notice) : Does L s (((s.silence.demodStop).setCall
      { s.call with st := restState s.call.seated }).askNotice n) :=
    .after (State.askNotice_does _ _) (.call (.rested (.inr inLoop)) rfl)
  exact .ite (fun _ => ended _) fun _ => .after (State.askNotice_does _ _) (ended _)

theorem State.abortLoop_does (inLoop : s.call.st = .loop) : Does L s s.abortLoop := by
  unfold State.abortLoop
  split <;> exact s.endLoop_does inLoop _ _ _

theorem State.placeCall_does (label : L .places) (mode : Mode) (args : List Byte) : Does L s (s.placeCall mode args).1 := by
  unfold State.placeCall
  split
  · exact .refl _
  · exact .refl _
  · exact .refl _
  · next ready =>
    split
    · exact .refl _
    · next f _ =>
      cases mode with
      | originate => exact .call (.placed label ready { mode := .originate, fmt := f } (.inl rfl)) rfl
      | answer => exact .call (.placed label ready { mode := .answer, fmt := f } (.inr rfl)) rfl
  · exact .refl _

theorem State.dropRule_does : Does L s s.dropRule.1 := by
  unfold State.dropRule
  split
  · exact s.enterDropping_does _
  · exact s.enterDropping_does _
  · exact s.enterDropping_does _
  · exact s.enterDropping_does _
  · next inLoop => exact s.abortLoop_does inLoop
  · exact .refl _

theorem State.breakRule_does : Does L s s.breakRule.1 := by
  unfold State.breakRule
  (repeat' split)
  · exact .refl _
  · next online _ => exact s.takeBreak_does online
  · exact .refl _

theorem State.breakKey_does : Does L s s.breakKey := by
  have rule := s.breakRule_does (L := L)
  unfold State.breakKey
  split
  · next e => rwa [e] at rule
  · exact s.askSound_does _

theorem State.loopRule_does : Does L s s.loopRule.1 := by
  unfold State.loopRule
  split
  · next idle => exact s.startLoop_does (.inl idle)
  · next ready => exact s.startLoop_does (.inr ready)
  · exact .refl _
  · exact .refl _
  · exact .refl _

/-! ## The Keyboard Scanner -/

theorem State.offerRecord_does (r : KeyRecord) : Does L s (s.offerRecord r) :=
  .ite (fun room => .keys (.record { r with lostBefore := s.kbd.keyLost } room) rfl) fun _ =>
    .ite (fun _ => .refl _) fun _ => .after (State.askNotice_does _ _) (.of_eq rfl)

theorem State.specialKey_does (label : event = .down → L .keys) (pos : Nat) (x : Sense) :
    Does L s (s.specialKey pos event x) := by
  unfold State.specialKey
  split
  · exact s.breakKey_does
  · exact (Move.localMode (label rfl) _).once
  · exact s.paperFeed_does x
  · exact s.paperFeed_does x
  · exact .refl _

theorem State.applyModifier_does (label : event = .down → L .keys) (pos : Nat) :
    Does L s (s.setKbd (s.kbd.applyModifier pos event)) := by
  unfold Keyboard.applyModifier
  split
  · next caps => exact (Move.caps (label caps.2) _).once
  · exact .refl _

theorem State.keyEvent_does (label : event = .down → L .keys) (pos : Nat) (x : Sense) :
    Does L s (s.keyEvent pos event x) := by
  refine .after (State.specialKey_does _ label pos x) ?_
  have clicked (t : State) (c : Prop) [Decidable c] : Does L t (if c then t.askSound .click else t) :=
    .ite (fun _ => t.askSound_does _) fun _ => .refl _
  have recorded (t : State) (r : KeyRecord) : Does L t (if t.recordsKey pos then t.offerRecord r else t) :=
    .ite (fun _ => t.offerRecord_does r) fun _ => .refl _
  have start := Does.after (recorded _ ((s.setKbd (s.kbd.applyModifier pos event)).kbd.record pos event))
    (.after (clicked _ (event = .down ∧ (s.setKbd (s.kbd.applyModifier pos event)).msg.setup.click))
      (s.applyModifier_does label pos))
  split
  · exact .ite (fun _ => .after (State.keyedChar_does _ _) start) fun _ => start
  · exact start

theorem State.repeatNow_does (x : Sense) : Does L s (s.repeatNow x) := by
  unfold State.repeatNow
  split
  · exact .of_eq rfl
  · exact (State.keyEvent_does _ nofun _ x).since rfl

theorem State.keyDown_does (label : L .keys) (pos : Nat) (x : Sense) : Does L s (s.keyDown pos x) :=
  (State.keyEvent_does _ (fun _ => label) pos x).since rfl

theorem State.keyUp_does (pos : Nat) (x : Sense) : Does L s (s.keyUp pos x) := by
  refine .ite (fun _ => (State.keyEvent_does _ nofun pos x).since ?_) fun _ => .of_eq rfl
  unfold Keyboard.dropCandidate
  split <;> rfl

theorem State.judgePress_does (label : L .keys) (pos : Nat) (x : Sense) : Does L s (s.judgePress pos x) :=
  .ite (fun _ => .of_eq rfl) fun _ => s.keyDown_does label pos x

theorem State.testBlocked_does (label : L .keys) (pos : Nat) (x : Sense) : Does L s (s.testBlocked pos x) :=
  .ite (fun _ => .refl _) fun _ => s.keyDown_does label pos x

theorem Does.foldl {α : Type} {f : State → α → State} (step : ∀ t a, Does L t (f t a)) (xs : List α) (t : State) :
    Does L t (xs.foldl f t) := by
  induction xs generalizing t with
  | nil => rfl
  | cons a rest ih => exact .after (ih _) (step t a)

theorem State.scan_does (label : L .keys) (keys : Matrix) (x : Sense) : Does L s (s.scan keys x) := by
  refine .after (Does.foldl (fun t p => t.judgePress_does label p x) _ _) ?_
  refine .after (Does.foldl (fun t p => t.testBlocked_does label p x) _ _) ?_
  exact (Does.foldl (fun t p => t.keyUp_does p x) _ _).since rfl

end Sys2Proof.Machine

/-! PROOFS. The moves of the Line Interface and the Message Unit. -/

namespace Sys2Proof.Machine

variable {L : Label → Prop} (s : State)

/-! ## The slots -/

theorem State.removeKeys_does : Does L s s.removeKeys := .keys .gone rfl

theorem State.removeText_does : Does L s s.removeText := by
  refine .after (State.arrival_does _) (.pool (.textGone s.pool.fwqInMessage) ?_)
  have taken := s.takeText_digest s.pool.fwqInMessage
  have pool : (s.takeText s.pool.fwqInMessage).pool = s.pool.takeCells s.pool.fwqInMessage := congrArg Digest.pool taken
  calc _ = { (s.takeText s.pool.fwqInMessage).digest with
        pool := { (s.takeText s.pool.fwqInMessage).pool with fwqInMessage := 0 } } := rfl
    _ = _ := by rw [taken, pool]

theorem kindsOf_noticesSent (q : List NoticeEntry) : (kindsOf (noticesSent q)).Sublist (kindsOf q) := by
  unfold noticesSent
  split
  · rfl
  · split
    · simp only [kindsOf, List.map_cons]
      split
      · next kind => simp [kind, Notice.kind]
      · rfl
    · exact List.sublist_cons_self _ _

theorem kindsOf_noticesFailed (q : List NoticeEntry) : (kindsOf (noticesFailed q)).Sublist (kindsOf q) := by
  unfold noticesFailed
  (repeat' split)
  · rfl
  · rfl
  · exact List.sublist_cons_self _ _
  · rfl

theorem kindsOf_reroute (r : Setup) (q : List NoticeEntry) : (kindsOf (r.reroute q)).Sublist (kindsOf q) := by
  induction q with
  | nil => rfl
  | cons e rest ih =>
    simp only [Setup.reroute, List.filterMap_cons]
    cases r.routeDest e.notice.kind with
    | none => exact .cons _ ih
    | some d => exact .cons_cons _ ih

theorem repliesFailed_length (q : List ReplyEntry) : (repliesFailed q).length ≤ q.length := by
  unfold repliesFailed
  (repeat' split) <;> simp

theorem State.repliesLeft_does (q : List ReplyEntry) (fewer : q.length ≤ s.line.replies.length) :
    Does L s (s.setLine { s.line with replies := q }) := .queues (.repliesLeft fewer) rfl

theorem State.noticesLeft_does (q : List NoticeEntry) (sub : (kindsOf q).Sublist (kindsOf s.line.notices)) :
    Does L s (s.setLine { s.line with notices := q }) := .queues (.noticesLeft sub) rfl

theorem State.messageSent_does (label : L .claimSent) (slot : Slot) : Does L s (s.messageSent slot) := by
  cases slot with
  | claim => exact s.claimSent_does label
  | reply => exact s.repliesLeft_does _ (by simp)
  | notice => exact s.noticesLeft_does _ (kindsOf_noticesSent _)
  | keys => exact s.removeKeys_does
  | text => exact s.removeText_does
  | present => exact .of_eq s.digest_removePresent

theorem State.messageFailed_does (slot : Slot) : Does L s (s.messageFailed slot) := by
  cases slot with
  | claim => exact s.claimFailed_does
  | reply => exact s.repliesLeft_does _ (repliesFailed_length _)
  | notice => exact s.noticesLeft_does _ (kindsOf_noticesFailed _)
  | keys =>
    unfold State.messageFailed
    dsimp only
    split
    · exact .ite (fun _ => s.removeKeys_does) fun _ => .refl _
    · rfl
  | text =>
    unfold State.messageFailed
    dsimp only
    split
    · exact .ite (fun _ => s.removeText_does) fun _ => .refl _
    · rfl
  | present =>
    unfold State.messageFailed
    dsimp only
    split
    · exact .ite (fun _ => .of_eq s.digest_removePresent) fun _ => .refl _
    · rfl

theorem Line.afterLoss_same (l : Line) (doze : Bool) (a : Attempt) (bit : Nat) : l.Same (l.afterLoss doze a bit) := by
  unfold Line.afterLoss
  dsimp only
  split <;> rfl

/-- The end of an attempt writes the receiver's own fields, the attempt and the retry flag. -/
theorem State.digest_attemptEnds {l : Line} (h : s.line.Same l) (a : Option Attempt) (retry : Bool) :
    (s.setLine { l with attempt := a, retry := retry }).digest = s.digest := by
  rw [Line.Same] at h
  rw [h]
  rfl

theorem State.attemptDone_does (label : L .claimSent) (a : Attempt) : Does L s (s.attemptDone a) :=
  (State.messageSent_does _ label _).since (s.digest_advanceTo _ : _)

theorem State.attemptFailsLost_does (a : Attempt) (bit : Nat) : Does L s (s.attemptFailsLost a bit) :=
  (State.messageFailed_does _ _).since
    ((State.digest_attemptEnds _ (Line.afterLoss_same _ _ _ _) _ _).trans (s.digest_advanceTo _))

theorem State.attemptFailsFault_does (a : Attempt) (bit : Nat) : Does L s (s.attemptFailsFault a bit) :=
  (State.messageFailed_does _ _).since (s.digest_advanceTo _ : _)

/-! ## Listen-only -/

/-- The digest with every slot, queue and claim emptied, as at entry to listen-only. -/
def Digest.silenced (d : Digest) : Digest :=
  { d with
    listenOnly := true, keys := { fifo := [], inMessage := 0, slot := none }, queues := { replies := 0, notices := [] }
    claim := { d.claim with raise := .none, own := 0, granted := 0, slot := none } }

theorem Digest.silenced_moves (d : Digest) : Moves L d d.silenced := by
  have flagged : Move L d { d with listenOnly := true } := .listenOnly
  have keys := (Move.keys .emptied : Move L { d with listenOnly := true } _)
  have notices := (Move.queues (.noticesLeft (List.nil_sublist _)) : Move L
    { d with listenOnly := true, keys := { fifo := [], inMessage := 0, slot := none } } _)
  have replies := (Move.queues (.repliesLeft (Nat.zero_le _)) : Move L
    { d with
      listenOnly := true, keys := { fifo := [], inMessage := 0, slot := none }
      queues := { d.queues with notices := [] } } _)
  exact flagged.once.trans (keys.once.trans (notices.once.trans (replies.once.trans (Move.claim .silenced).once)))

theorem State.enterListenOnly_does (x : Sense) : Does L s (s.enterListenOnly x) := by
  unfold State.enterListenOnly
  split
  · rfl
  · have silenced (t : State) (same : t.digest = s.digest.silenced) : Does L s t := by
      rw [Does, same]
      exact Digest.silenced_moves _
    refine .after (State.arrival_does _) (.after (State.engineListenOnly_does _ x) ?_)
    refine .after (.pool .discardFwq (State.changePool_digest _ _)) (silenced _ ?_)
    unfold State.openWindow
    split <;> rfl

/-! ## The gathers and the end of a step -/

theorem State.buildKeys_does : Does L s s.buildKeys := by
  unfold State.buildKeys
  split
  · next built =>
    simp only [Bool.and_eq_true, decide_eq_true_eq, State.keysUnsent] at built
    obtain ⟨⟨-, free⟩, waiting⟩ := built
    have ne : s.kbd.fifo ≠ [] := List.ne_nil_of_length_pos (Nat.lt_of_lt_of_le (of_decide_eq_true waiting) (Nat.sub_le _ _))
    exact .ite (fun _ => .keys (.built ne free) rfl) fun _ => .keys (.built ne free) rfl
  · rfl

theorem State.keysGather_does (before : State) : Does L s (State.keysGather before s) := by
  unfold State.keysGather
  (repeat' split)
  · exact (State.buildKeys_does _).since rfl
  · exact s.buildKeys_does
  · rfl

theorem State.buildText_does : Does L s s.buildText :=
  .ite (fun _ => .ite (fun _ => .pool .textBuilt rfl) fun _ => .pool .textBuilt rfl) fun _ => .refl _

theorem State.textGather_does (before : State) : Does L s (State.textGather before s) := by
  unfold State.textGather
  (repeat' split)
  · exact (State.buildText_does _).since (State.digest_textDueNow _)
  · exact (State.buildText_does _).since (State.digest_textDueNow _)
  · rfl

theorem State.reviewed_does (before : State) : Does L s (State.reviewed before s) :=
  .after (State.textGather_does _ before) (.after (State.keysGather_does _ before)
    (.after (.of_eq (State.digest_parkReview _ before)) (s.budgetReview_does before)))

/-! ## Requests -/

theorem Moves.replies_le {d e : Digest} (unlabelled : ¬ L .reply) (h : Moves L d e) : e.queues.replies ≤ d.queues.replies := by
  refine Moves.keeps (P := fun x => x.queues.replies ≤ d.queues.replies) (fun x y move le => ?_) h le_rfl
  cases move with
  | queues h =>
    cases h with
    | posted => exact le
    | noticesLeft => exact le
    | replied label => exact absurd label unlabelled
    | repliesLeft fewer => exact fewer.trans le
  | restart => exact Nat.zero_le _
  | powerUp => exact Nat.zero_le _
  | _ => exact le

theorem State.queueEntry_does (label : L .reply) (room : s.line.replies.length < Config.replyQueueSize) (dest : Addr)
    (kind : Byte) (body : List Byte) : Does L s (s.queueEntry dest kind body) :=
  .ite (fun _ => .refl _) fun _ => .queues (.replied label room) (by
    simp [State.digest, keyView, claimView, Line.queueView])

theorem State.reply_does (label : L .reply) (room : s.line.replies.length < Config.replyQueueSize) (src : Addr) (kind : Byte)
    (a : Answer) : Does L s (s.reply src kind a) := s.queueEntry_does label room _ _ _

theorem State.queueFull_iff : s.queueFull = true ↔ Config.replyQueueSize ≤ s.line.replies.length := by
  simp [State.queueFull]

/-- The labels of a request's own rule: it puts nothing in the reply queue. -/
def Label.Rule (L : Label → Prop) (l : Label) : Prop := L l ∧ l ≠ .reply

theorem State.request_does (label : L .reply) (src : Addr) (kind : Byte) (fits : Bool) (rule : State → State × Answer)
    (does : Does (Label.Rule L) s (rule s).1) : Does L s (s.request src kind fits rule) := by
  refine .ite (fun _ => .refl _) fun free => ?_
  have room : s.line.replies.length < Config.replyQueueSize := by simpa [State.queueFull_iff] using free
  have left : (rule s).1.line.replies.length ≤ s.line.replies.length := Moves.replies_le (fun h => h.2 rfl) does
  refine .ite (fun _ => s.reply_does label room _ _ _) fun _ => .ite (fun _ => ?_) fun _ => s.reply_does label room _ _ _
  exact .after (State.reply_does _ label (left.trans_lt room) _ _ _) (Moves.mono (fun _ h => h.1) does)

theorem State.refuseUnknown_does (label : L .reply) (src : Addr) (kind : Byte) : Does L s (s.refuseUnknown src kind) :=
  .ite (fun _ => .refl _) fun free => s.reply_does label (by simpa [State.queueFull_iff] using free) _ _ _

theorem State.refuseAction_does (label : L .reply) (src : Addr) (kind : Byte) : Does L s (s.refuseAction src kind) :=
  s.request_does label _ _ _ _ (.refl _)

theorem State.takeSetup_does (label : L .setup) (body : List Byte) (own sender : Addr) :
    Does L s (s.takeSetup (setupOf body own sender).1) := by
  have taken (t : State) (same : t.digest = { s.digest with
      setup := (setupOf body own sender).1, routing := (setupOf body own sender).1.routing
      darkness := (setupOf body own sender).1.darkness }) : Does L s t := by
    rw [Does, same]
    exact (Move.setup label body own sender).once
  refine .after (.of_eq (State.digest_closeWindow _)) (.after (State.noticesLeft_does _ _ (kindsOf_reroute _ _)) (taken _ rfl))

theorem State.setupRequest_does (label : L .reply) (sets : L .setup) (src : Addr) (body : List Byte) :
    Does L s (s.setupRequest src body) := by
  refine .ite (fun _ => .refl _) fun free => ?_
  have room : s.line.replies.length < Config.replyQueueSize := by simpa [State.queueFull_iff] using free
  refine .ite (fun _ => s.reply_does label room _ _ _) fun _ => .ite (fun _ => ?_) fun _ => s.reply_does label room _ _ _
  exact .after (State.reply_does _ label (by simpa [State.takeSetup, State.closeWindow, State.enterRun] using room) _ _ _)
    (s.takeSetup_does sets _ _ _)

theorem State.routingRule_does (label : L .routes) (body : List Byte) : Does L s (s.routingRule body).1 := by
  unfold State.routingRule
  split
  · rfl
  · next r _ =>
    have routed (t : State) (same : t.digest = { s.digest with routing := r }) : Does L s t := by
      rw [Does, same]
      exact (Move.routing label r).once
    exact .after (State.arrival_does _) (routed _ (State.digest_evaluateFlow _))

theorem State.statusRequest_does (label : L .reply) (src : Addr) (body : List Byte) : Does L s (s.statusRequest src body) := by
  refine .ite (fun _ => .refl _) fun free => ?_
  have room : s.line.replies.length < Config.replyQueueSize := by simpa [State.queueFull_iff] using free
  exact .ite (fun _ => s.queueEntry_does label room _ _ _) fun _ => s.reply_does label room _ _ _

theorem State.dozeRule_does : Does L s s.dozeRule.1 := by
  unfold State.dozeRule
  (repeat' split)
  · rfl
  · exact .after (.of_eq (State.digest_setMsg _ rfl)) s.dozeRelease_does
  · rfl

/-! ## DOZE, wake and RESTART -/

theorem Does.table {s t : State} {ns : List Neighbour} (h : TableMove s.line.addr s.bud ns)
    (e : t.digest = { s.digest with table := ns }) : Does L s t := by
  rw [Does, e]
  exact (Move.table (d := s.digest) rfl h).once

theorem State.wake_does (x : Sense) : Does L s (s.wake x) := by
  refine .after ((State.sampleNow_does _ x).since (State.digest_gathersWoken _)) (.table .cleared ?_)
  simp [State.digest, claimView, keyView, Budget.woken, Call.view, Engine.view]

theorem State.dozeCups_does (label : L .cups) (a b : Bool) : Does L s (s.dozeCups a b).1 := by
  unfold State.dozeCups
  dsimp only
  (repeat' split)
  · rfl
  · exact .after (State.askNotice_does _ _) (.call (.lifted label) (by simp [State.digest, Call.view, *]))
  · exact .after (State.askNotice_does _ _) (.call (.lifted label) (by simp [State.digest, Call.view, *]))
  · exact .of_eq rfl
  · rfl

theorem State.dozeScan_does (label : L .cups) (keys : Matrix) (a b : Bool) (x : Sense) :
    Does L s (s.dozeScan keys a b x) := by
  have cups : Does L s (((s.setKbd { s.kbd with dozeTimer := some (s.now + Config.dozeScanPeriod) }).setPins
      { s.pins with keys := keys, cupA := a, cupB := b }).dozeCups a b).1 := (State.dozeCups_does _ label a b).since rfl
  exact .ite (fun _ => .after (State.wake_does _ x) cups) fun _ => cups

theorem State.restart_does (label : L .restart) (x : Sense) : Does L s (s.restart x) := by
  have restarted (t : State) (same : t.digest = s.digest.restarted) : Does L s t := by
    rw [Does, same]
    exact (Move.restart label).once
  refine .after (State.sampleNow_does _ x) (restarted _ ?_)
  simp [State.digest, Digest.restarted, Call.restarted, Call.view, keyView, claimView, Line.queueView, Line.restarted,
    Line.silenced, Keyboard.reset, Router.reset, Assembler.reset, Budget.reset, Engine.reset, Engine.view,
    MessageUnit.restarted, MessageUnit.stopGathers, kindsOf]

theorem State.restartMessage_does (label : L .restart) (body : List Byte) (x : Sense) :
    Does L s (s.restartMessage body x) :=
  .ite (fun _ => s.restart_does label x) fun _ => .refl _

/-! ## Broadcasts -/

theorem State.allowanceHeard_does (src : Addr) (body : List Byte) : Does L s (s.allowanceHeard src body) := by
  unfold State.allowanceHeard
  split
  · refine .of_eq ?_
    unfold Budget.hearAllowance
    split <;> rfl
  · rfl

theorem Budget.hearClaim_eq (b : Budget) (own src : Addr) (mA : Nat) :
    b.hearClaim own src mA = { b with table := (b.hearClaim own src mA).table } := by
  unfold Budget.hearClaim
  (repeat' split) <;> rfl

theorem Budget.hearPresent_eq (b : Budget) (own src : Addr) :
    b.hearPresent own src = { b with table := (b.hearPresent own src).table } := by
  unfold Budget.hearPresent
  split <;> rfl

theorem claimOf_le {body : List Byte} {mA : Nat} (h : claimOf body = some mA) : mA ≤ Config.maxCurrent := by
  unfold claimOf at h
  split at h
  · cases h
    exact Nat.min_le_left _ _
  · cases h

theorem State.claimHeard_does (src : Addr) (body : List Byte) : Does L s (s.claimHeard src body) := by
  unfold State.claimHeard
  split
  · next mA heard =>
    refine .table (.claim src mA (claimOf_le heard)) ?_
    rw [Budget.hearClaim_eq]
    rfl
  · rfl

theorem State.presentHeard_does (src : Addr) (body : List Byte) : Does L s (s.presentHeard src body) := by
  refine .ite (fun _ => .table (.present src) ?_) fun _ => .refl _
  rw [Budget.hearPresent_eq]
  rfl

end Sys2Proof.Machine

/-! PROOFS. The moves of every command. -/

namespace Sys2Proof.Machine

/-- What a command may do beyond the moves that every command may make. -/
def mayDo (c : Instr) : Label → Prop
  | .straps => c.readsStraps = true
  | .cups => c.readsCups = true
  | .setup => c.setsUp = true ∨ c.mayRestart = true
  | .routes => c.routes = true ∨ c.mayRestart = true
  | .places => c.placesCall = true ∨ c.mayRestart = true
  | .keys => c.scansKeys = true
  | .darkness => c.stagesDarkness = true ∨ c.mayRestart = true
  | .width => c.stagesWidth = true ∨ c.mayRestart = true
  | .motor => c.stepsMotor = true ∨ c.mayRestart = true
  | .claimSent => c.completesAttempt = true
  | .restart => c.mayRestart = true
  | .reply => True

variable {L : Label → Prop} (s : State)

/-! ## Messages by kind -/

theorem State.callByAction_does (label : L .reply) (places : L .places) (src : Addr) (body : List Byte) :
    Does L s (s.callByAction src body) := by
  unfold State.callByAction
  have rule : Label.Rule L .places := ⟨places, nofun⟩
  (repeat' split)
  · exact s.request_does label _ _ _ _ s.dropRule_does
  · exact s.request_does label _ _ _ _ (s.placeCall_does rule _ _)
  · exact s.request_does label _ _ _ _ (s.placeCall_does rule _ _)
  · exact s.request_does label _ _ _ _ s.dropRule_does
  · exact s.request_does label _ _ _ _ s.breakRule_does
  · exact s.request_does label _ _ _ _ s.loopRule_does
  · exact s.refuseAction_does label _ _

theorem State.printControlByAction_does (label : L .reply) (motor : L .motor) (darkness : L .darkness) (width : L .width)
    (src : Addr) (body : List Byte) (x : Sense) : Does L s (s.printControlByAction src body x) := by
  unfold State.printControlByAction
  (repeat' split)
  · exact s.request_does label _ _ _ _ s.holdRule_does
  · exact s.request_does label _ _ _ _ s.holdRule_does
  · exact s.request_does label _ _ _ _ (s.resumeRule_does x)
  · exact s.request_does label _ _ _ _ (s.stopNowRule_does ⟨motor, nofun⟩)
  · exact s.request_does label _ _ _ _ (s.stepLineRule_does x)
  · exact s.request_does label _ _ _ _ (s.setDarknessRule_does ⟨darkness, nofun⟩ _)
  · exact s.request_does label _ _ _ _ (s.setWidthRule_does ⟨width, nofun⟩ _)
  · exact s.refuseAction_does label _ _

theorem State.broadcastByKind_does (restart : L .restart) (src : Addr) (kind : Byte) (body : List Byte) (x : Sense) :
    Does L s (s.broadcastByKind src kind body x) :=
  .ite (fun _ => s.allowanceHeard_does src body) fun _ => .ite (fun _ => s.claimHeard_does src body) fun _ =>
    .ite (fun _ => s.presentHeard_does src body) fun _ => .ite (fun _ => s.restartMessage_does restart body x) fun _ => .refl _

/-- What a whole message may do, whatever its kind. -/
def Label.InMessage : Label → Prop
  | .straps => False
  | .cups => False
  | .keys => False
  | .claimSent => False
  | _ => True

theorem State.addressedByKind_does (may : ∀ l : Label, l.InMessage → L l) (src : Addr) (kind : Byte) (body : List Byte)
    (x : Sense) : Does L s (s.addressedByKind src kind body x) := by
  have reply : L .reply := may _ trivial
  have routes : Label.Rule L .routes := ⟨may _ trivial, nofun⟩
  unfold State.addressedByKind
  split
  · exact s.setupRequest_does reply (may _ trivial) src body
  · exact s.request_does reply _ _ _ _ (s.printTextRule_does body)
  · exact s.request_does reply _ _ _ _ (s.sendTextRule_does body)
  · exact s.callByAction_does reply (may _ trivial) src body
  · exact s.printControlByAction_does reply (may _ trivial)
      (may _ trivial) (may _ trivial) src body x
  · exact s.request_does reply _ _ _ _ (s.routingRule_does routes body)
  · exact s.statusRequest_does reply src body
  · exact s.request_does reply _ _ _ _ s.dozeRule_does
  · exact s.restartMessage_does (may _ trivial) body x
  · exact s.request_does reply _ _ _ _ (s.rawDotLineRule_does body x)
  · exact .ite (fun _ => .refl _) fun _ => s.refuseUnknown_does reply src kind

theorem State.byHead_does (may : ∀ l : Label, l.InMessage → L l) (bytes : List Byte) (x : Sense) : Does L s (s.byHead bytes x) :=
  .ite (fun _ => s.broadcastByKind_does (may _ trivial) _ _ _ x)
    fun _ => s.addressedByKind_does may _ _ _ x

/-! ## Delivery -/

theorem State.taken_does (before : State) (x : Sense) (conflict addressed : Bool) {act : State → State}
    (acts : ∀ u, Does L u (act u)) : Does L s (State.taken before s x conflict addressed act) := by
  refine .ite (fun _ => .refl _) fun _ => .after (State.reviewed_does _ _) ?_
  have awake : Does L s (if s.msg.op = .doze then s.wake x else s) := .ite (fun _ => s.wake_does x) fun _ => .refl _
  exact .ite (fun _ => .after (State.enterListenOnly_does _ x) awake) fun _ => .after (acts _) awake

theorem State.delivered_does (m : Moment) (dest src : Addr) {act : State → State} (acts : ∀ u, Does L u (act u)) :
    Does L s (s.delivered m dest src act) :=
  .ite (fun _ => .refl _) fun _ => (State.taken_does _ _ _ _ _ acts).since (s.digest_heard m.t)

/-! ## Answers -/

/-- The command answers a next state, by a run of moves. -/
def Answers (L : Label → Prop) (s : State) (a : Answered) : Prop := ∃ t, a = .next t ∧ Does L s t

theorem Answers.next {s t : State} (h : Does L s t) : Answers L s (.next t) := ⟨t, rfl, h⟩

theorem Answers.made {s t : State} (h : Does L s t) : Answers L s (s.made t) := .next (.after (State.reviewed_does _ _) h)

theorem Answers.ite {s : State} {a b : Answered} {c : Prop} [Decidable c] (h : c → Answers L s a)
    (g : ¬ c → Answers L s b) : Answers L s (if c then a else b) := by
  split
  · exact h ‹_›
  · exact g ‹_›

theorem Answers.idle : Answers L s (.next s) := .next (.refl s)

theorem Answers.atTimer (timer : Timer) {f : State → State} (h : ∀ d, Does L (s.advanceTo d) (f (s.advanceTo d))) :
    Answers L s (s.atTimer timer f) := by
  unfold State.atTimer
  split
  · exact .idle s
  · exact .next ((h _).since (s.digest_advanceTo _))

theorem Answers.onTimer (timer : Timer) {f : State → State} (h : ∀ d, Does L (s.advanceTo d) (f (s.advanceTo d))) :
    Answers L s (s.onTimer timer f) :=
  .atTimer s timer fun d => .after (State.reviewed_does _ _) (h d)

theorem Answers.delivered (m : Moment) (dest src : Addr) {act : State → State} (acts : ∀ u, Does L u (act u)) :
    Answers L s (.next (s.delivered m dest src act)) := .next (s.delivered_does m dest src acts)

theorem Answers.request (label : L .reply) (m : Moment) (src : Addr) (kind : Byte) (fits : Bool)
    (rule : State → State × Answer) (does : ∀ u, Does (Label.Rule L) u (rule u).1) :
    Answers L s (.next (s.delivered m s.line.addr src fun u => u.request src kind fits rule)) :=
  .delivered s m _ _ fun u => u.request_does label _ _ _ _ (does u)

/-! ## The commands -/

theorem State.charRecovered_does (cell : Cell) : Does L s (s.charRecovered cell) :=
  .ite (fun _ => .of_eq rfl) fun _ => s.receiveItem_does cell

theorem State.breakRecovered_does : Does L s s.breakRecovered :=
  .ite (fun _ => .of_eq rfl) fun _ => .after (State.askNotice_does _ _) (s.receiveItem_does _)

theorem execPowerOnReset_answers (label : L .straps) (straps : Addr) (rateHigh : Bool) (x : Sense) :
    Answers L s (execPowerOnReset straps rateHigh x s) := by
  have reset : Does L s (State.powerUp s.pending straps rateHigh) :=
    (Move.powerUp label straps rateHigh).once
  exact .next (.after (State.sampleNow_does _ x) reset)

theorem execPresentDelayExpiry_answers : Answers L s (execPresentDelayExpiry s) := .atTimer s _ fun _ => .of_eq rfl

theorem execSetupWindowExpiry_answers : Answers L s (execSetupWindowExpiry s) :=
  .onTimer s _ fun _ => .of_eq (State.digest_closeWindow _)

theorem execKeyboardScan_answers (keysLabel : L .keys) (keys : Matrix) (x : Sense) :
    Answers L s (execKeyboardScan keys x s) :=
  .onTimer s _ fun _ => (State.scan_does _ keysLabel keys x).since rfl

theorem execRepeatTimerExpiry_answers (x : Sense) : Answers L s (execRepeatTimerExpiry x s) :=
  .onTimer s _ fun _ => State.repeatNow_does _ x

theorem execDozeScan_answers (cups : L .cups) (keys : Matrix) (a b : Bool) (x : Sense) :
    Answers L s (execDozeScan keys a b x s) :=
  .onTimer s _ fun _ => State.dozeScan_does _ cups keys a b x

theorem execSoundEnd_answers : Answers L s (execSoundEnd s) := .atTimer s _ fun _ => .of_eq rfl

theorem execCupsUnseated_answers (cups : L .cups) (a b : Bool) : Answers L s (execCupsUnseated a b s) :=
  .ite (fun _ => .made (s.cupReading_does cups a b)) fun _ => .idle s

theorem execCupsSeated_answers (cups : L .cups) : Answers L s (execCupsSeated s) :=
  .ite (fun _ => .made (s.cupReading_does cups _ _)) fun _ => .idle s

theorem execMicEdge_answers (t : Nat) : Answers L s (execMicEdge t s) := by
  have same : ((s.advanceTo t).setPins { (s.advanceTo t).pins with mic := !(s.advanceTo t).pins.mic }).digest = s.digest :=
    s.digest_advanceTo t
  exact .ite (fun _ => .next (.of_eq ((State.digest_crossing _ _).trans same))) fun _ => .next (.of_eq same)

theorem execCarrierWindowEnd_answers : Answers L s (execCarrierWindowEnd s) := .onTimer s _ fun _ => State.windowEnd_does _

theorem execReceivedCharacter_answers : Answers L s (execReceivedCharacter s) := by
  refine .ite (fun _ => ?_) fun _ => .idle s
  have sampled : Does L s s.sampleOnce.1 := .of_eq s.digest_sampleOnce
  split
  · next e => rw [e] at sampled; exact .made (.after (State.charRecovered_does _ _) sampled)
  · exact .idle s

theorem execReceivedBreak_answers : Answers L s (execReceivedBreak s) := by
  refine .ite (fun _ => ?_) fun _ => .idle s
  have sampled : Does L s s.sampleOnce.1 := .of_eq s.digest_sampleOnce
  split
  · next e => rw [e] at sampled; exact .made (.after (State.breakRecovered_does _) sampled)
  · exact .idle s

theorem execReceiveSampleEvent_answers : Answers L s (execReceiveSampleEvent s) := by
  refine .ite (fun _ => ?_) fun _ => .idle s
  have sampled : Does L s s.sampleOnce.1 := .of_eq s.digest_sampleOnce
  split
  · next e => rw [e] at sampled; exact .next sampled
  · next e => rw [e] at sampled; exact .made (.after (State.charRecovered_does _ _) sampled)
  · next e => rw [e] at sampled; exact .made (.after (State.breakRecovered_does _) sampled)

theorem execCharacterBoundary_answers : Answers L s (execCharacterBoundary s) := by
  unfold execCharacterBoundary
  split
  · exact .ite (fun _ => .next ((State.frameEnd_does _ _).since (s.digest_advanceTo _))) fun _ => .idle s
  · exact .next s.arrival_does

theorem execFrameBitStart_answers : Answers L s (execFrameBitStart s) :=
  .ite (fun _ => .next (.of_eq ((State.digest_nextBit _).trans (s.digest_advanceTo _)))) fun _ => .idle s

theorem execBreakSpaceEnd_answers : Answers L s (execBreakSpaceEnd s) :=
  .ite (fun _ => .atTimer s _ fun _ => .of_eq rfl) fun _ => .idle s

theorem execBreakGuardEnd_answers : Answers L s (execBreakGuardEnd s) :=
  .ite (fun _ => .atTimer s _ fun _ => .after (State.arrival_does _) (.call .breakOver rfl)) fun _ => .idle s

theorem execLoopTestEnd_answers : Answers L s (execLoopTestEnd s) := by
  unfold execLoopTestEnd
  split
  · refine .ite (fun h => .made ?_) fun _ => .idle s
    exact (State.endLoop_does _ (by simpa using h.1) _ _ _).since (s.digest_advanceTo _)
  · exact .idle s

theorem execTestAccumulatorCrossing_answers : Answers L s (execTestAccumulatorCrossing s) := by
  unfold execTestAccumulatorCrossing
  split
  · refine .ite (fun _ => .next (.of_eq ?_)) fun _ => .next (.of_eq s.digest_handCrossing)
    rw [State.digest_handCrossing, State.digest_advanceTo]
  · exact .idle s

theorem execCarrierWaitExpiry_answers : Answers L s (execCarrierWaitExpiry s) :=
  .ite (fun _ => .onTimer s _ fun _ => State.enterDropping_does _ _) fun _ => .idle s

theorem execFadeExpiry_answers : Answers L s (execFadeExpiry s) :=
  .ite (fun _ => .onTimer s _ fun _ => State.enterDropping_does _ _) fun _ => .idle s

theorem execUnseatExpiry_answers : Answers L s (execUnseatExpiry s) :=
  .ite (fun _ => .onTimer s _ fun _ => State.enterDropping_does _ _) fun _ => .idle s

theorem execSilenceExpiry_answers : Answers L s (execSilenceExpiry s) :=
  .ite (fun dropping => .atTimer s _ fun _ => State.silenceEnd_does _ (by simpa using dropping)) fun _ => .idle s

theorem execTakePrqCell_answers (m : Moment) : Answers L s (execTakePrqCell m s) :=
  .made ((State.takePrq_does _ _).since (s.digest_advanceTo _))

theorem execIdleFlushExpiry_answers (x : Sense) : Answers L s (execIdleFlushExpiry x s) :=
  .onTimer s _ fun _ => State.idleFlush_does _ x

theorem execWatchSample_answers (x : Sense) : Answers L s (execWatchSample x s) :=
  .onTimer s _ fun _ => State.watch_does _ x

theorem execBurstPhaseEnd_answers : Answers L s (execBurstPhaseEnd s) := by
  unfold execBurstPhaseEnd
  split
  · exact .ite (fun _ => .idle s) fun _ => .next (.of_eq (s.digest_advanceTo _ : _))
  · exact .idle s

theorem execHalfStepStart_answers (motor : L .motor) : Answers L s (execHalfStepStart s) := by
  unfold execHalfStepStart
  split
  · exact .ite (fun _ => .next ((State.halfStep_does _ motor _).since (s.digest_advanceTo _))) fun _ => .idle s
  · exact .idle s

theorem execDotLineEnd_answers (x : Sense) : Answers L s (execDotLineEnd x s) := by
  unfold execDotLineEnd
  split
  · exact .ite (fun _ => .made ((State.endDotLine_does _ _ x).since (s.digest_advanceTo _))) fun _ => .idle s
  · exact .idle s

theorem execBudgetTick_answers : Answers L s (execBudgetTick s) := .onTimer s _ fun _ => .table .aged rfl

theorem execSettleExpiry_answers (x : Sense) : Answers L s (execSettleExpiry x s) := by
  unfold execSettleExpiry
  split
  · next settling =>
    exact .onTimer s _ fun _ => .after (State.settleReport_does _ x) (State.settleEnd_does _ _ (by simpa using settling))
  · exact .idle s

theorem execRaiseBarrierExpiry_answers : Answers L s (execRaiseBarrierExpiry s) :=
  .onTimer s _ fun _ => (State.raiseTest_does _).since rfl

theorem execRestateExpiry_answers : Answers L s (execRestateExpiry s) := .atTimer s _ fun _ => State.restate_does _

theorem execParkExpiry_answers : Answers L s (execParkExpiry s) :=
  .onTimer s _ fun _ => (State.releaseClaim_does _ _ _).since rfl

theorem execSendWaitEnd_answers (wave : Wave) : Answers L s (execSendWaitEnd wave s) :=
  .next (.of_eq (s.digest_endWait wave))

theorem execAttemptCompleted_answers (sent : L .claimSent) : Answers L s (execAttemptCompleted s) := by
  unfold execAttemptCompleted
  split
  · exact .made (s.attemptDone_does sent _)
  · exact .idle s

theorem execAttemptLost_answers (bit : Nat) : Answers L s (execAttemptLost bit s) := by
  unfold execAttemptLost
  split
  · exact .ite (fun _ => .made (s.attemptFailsLost_does _ bit)) fun _ => .idle s
  · exact .idle s

theorem execLineFault_answers (bit : Nat) : Answers L s (execLineFault bit s) := by
  unfold execLineFault
  split
  · exact .ite (fun _ => .made (s.attemptFailsFault_does _ bit)) fun _ => .idle s
  · exact .idle s

theorem execWireBreak_answers (wave : Wave) : Answers L s (execWireBreak wave s) := by
  unfold execWireBreak
  split
  · exact .next (.of_eq (s.digest_afterWave wave))
  · exact .idle s

theorem execMessageReceived_answers (may : ∀ l : Label, l.InMessage → L l) (wave : Wave) (x : Sense) :
    Answers L s (execMessageReceived wave x s) := by
  unfold execMessageReceived
  split
  · exact .next ((State.taken_does _ _ _ _ _ fun u => u.byHead_does may _ x).since (s.digest_afterWave wave))
  · exact .idle s

theorem execMessageRejected_answers (wave : Wave) (cause : RejectCause) :
    Answers L s (execMessageRejected wave cause s) := by
  unfold execMessageRejected
  split
  · exact .next (.ite (fun _ => .of_eq (s.digest_afterWave wave)) fun _ => .refl _)
  · exact .idle s

theorem execMarkerCharacterInDoze_answers (wave : Wave) (x : Sense) : Answers L s (execMarkerCharacterInDoze wave x s) := by
  unfold execMarkerCharacterInDoze
  split
  · have read : Does L s (s.afterWave wave) := .of_eq (s.digest_afterWave wave)
    exact .made (.ite (fun _ => .after (State.wake_does _ x) read) fun _ => read)
  · exact .idle s

theorem execKeysGatherExpiry_answers : Answers L s (execKeysGatherExpiry s) := .onTimer s _ fun _ => .of_eq rfl

theorem execReceivedTextGatherExpiry_answers : Answers L s (execReceivedTextGatherExpiry s) :=
  .onTimer s _ fun _ => .of_eq rfl

theorem execAllowance_answers (m : Moment) (src : Addr) (body : List Byte) : Answers L s (execAllowance m src body s) :=
  .delivered s m _ _ fun u => u.allowanceHeard_does src body

theorem execClaim_answers (m : Moment) (src : Addr) (body : List Byte) : Answers L s (execClaim m src body s) :=
  .delivered s m _ _ fun u => u.claimHeard_does src body

theorem execPresent_answers (m : Moment) (src : Addr) (body : List Byte) : Answers L s (execPresent m src body s) :=
  .delivered s m _ _ fun u => u.presentHeard_does src body

theorem execUnknownKind_answers (reply : L .reply) (m : Moment) (src : Addr) (kind : Byte) (body : List Byte) :
    Answers L s (execUnknownKind m src kind body s) :=
  .ite (fun _ => .idle s) fun _ => .delivered s m _ _ fun u => u.refuseUnknown_does reply src kind

theorem execSetup_answers (reply : L .reply) (sets : L .setup) (m : Moment) (src : Addr) (body : List Byte) :
    Answers L s (execSetup m src body s) :=
  .delivered s m _ _ fun u => u.setupRequest_does reply sets src body

theorem execPrintText_answers (reply : L .reply) (m : Moment) (src : Addr) (body : List Byte) :
    Answers L s (execPrintText m src body s) :=
  .request s reply m src _ _ _ fun u => u.printTextRule_does body

theorem execSendText_answers (reply : L .reply) (m : Moment) (src : Addr) (body : List Byte) :
    Answers L s (execSendText m src body s) :=
  .request s reply m src _ _ _ fun u => u.sendTextRule_does body

theorem execOriginate_answers (reply : L .reply) (places : L .places) (m : Moment) (src : Addr) (args : List Byte) :
    Answers L s (execOriginate m src args s) :=
  .request s reply m src _ _ _ fun u => u.placeCall_does ⟨places, nofun⟩ _ args

theorem execAnswer_answers (reply : L .reply) (places : L .places) (m : Moment) (src : Addr) (args : List Byte) :
    Answers L s (execAnswer m src args s) :=
  .request s reply m src _ _ _ fun u => u.placeCall_does ⟨places, nofun⟩ _ args

theorem execDrop_answers (reply : L .reply) (m : Moment) (src : Addr) (args : List Byte) :
    Answers L s (execDrop m src args s) :=
  .request s reply m src _ _ _ fun u => u.dropRule_does

theorem execBreakRequest_answers (reply : L .reply) (m : Moment) (src : Addr) (args : List Byte) :
    Answers L s (execBreakRequest m src args s) :=
  .request s reply m src _ _ _ fun u => u.breakRule_does

theorem execLoopTest_answers (reply : L .reply) (m : Moment) (src : Addr) (args : List Byte) :
    Answers L s (execLoopTest m src args s) :=
  .request s reply m src _ _ _ fun u => u.loopRule_does

theorem execHold_answers (reply : L .reply) (m : Moment) (src : Addr) (args : List Byte) :
    Answers L s (execHold m src args s) :=
  .request s reply m src _ _ _ fun u => u.holdRule_does

theorem execResume_answers (reply : L .reply) (m : Moment) (src : Addr) (args : List Byte) :
    Answers L s (execResume m src args s) :=
  .request s reply m src _ _ _ fun u => u.resumeRule_does m.sense

theorem execStopNow_answers (reply : L .reply) (motor : L .motor) (m : Moment) (src : Addr) (args : List Byte) :
    Answers L s (execStopNow m src args s) :=
  .request s reply m src _ _ _ fun u => u.stopNowRule_does ⟨motor, nofun⟩

theorem execStepLine_answers (reply : L .reply) (m : Moment) (src : Addr) (args : List Byte) :
    Answers L s (execStepLine m src args s) :=
  .request s reply m src _ _ _ fun u => u.stepLineRule_does m.sense

theorem execSetDarkness_answers (reply : L .reply) (darkness : L .darkness) (m : Moment) (src : Addr) (args : List Byte) :
    Answers L s (execSetDarkness m src args s) :=
  .request s reply m src _ _ _ fun u => u.setDarknessRule_does ⟨darkness, nofun⟩ _

theorem execSetWidth_answers (reply : L .reply) (width : L .width) (m : Moment) (src : Addr) (args : List Byte) :
    Answers L s (execSetWidth m src args s) :=
  .request s reply m src _ _ _ fun u => u.setWidthRule_does ⟨width, nofun⟩ _

theorem execRouting_answers (reply : L .reply) (routes : L .routes) (m : Moment) (src : Addr) (body : List Byte) :
    Answers L s (execRouting m src body s) :=
  .request s reply m src _ _ _ fun u => u.routingRule_does ⟨routes, nofun⟩ body

theorem execStatusQuery_answers (reply : L .reply) (m : Moment) (src : Addr) (body : List Byte) :
    Answers L s (execStatusQuery m src body s) :=
  .delivered s m _ _ fun u => u.statusRequest_does reply src body

theorem execDoze_answers (reply : L .reply) (m : Moment) (src : Addr) (body : List Byte) :
    Answers L s (execDoze m src body s) :=
  .request s reply m src _ _ _ fun u => u.dozeRule_does

theorem execEnterDoze_answers : Answers L s (execEnterDoze s) := .next (.of_eq s.digest_dozeMoment)

theorem execRestart_answers (restarts : L .restart) (m : Moment) (src : Addr) (broadcast : Bool) (body : List Byte) :
    Answers L s (execRestart m src broadcast body s) :=
  .delivered s m _ _ fun u => u.restartMessage_does restarts body m.sense

theorem execRawDotLine_answers (reply : L .reply) (m : Moment) (src : Addr) (body : List Byte) :
    Answers L s (execRawDotLine m src body s) :=
  .request s reply m src _ _ _ fun u => u.rawDotLineRule_does body m.sense

theorem execCupSwitchReading_answers (cups : L .cups) (a b : Bool) : Answers L s (execCupSwitchReading a b s) :=
  .made (s.cupReading_does cups a b)

/-- Every command answers a next state, and what it does is a run of moves within its labels. -/
theorem exec_answers (c : Instr) (s : State) : Answers (mayDo c) s (exec c s) := by
  cases c with
  | powerOnReset straps rateHigh x => exact execPowerOnReset_answers s (Eq.refl true) straps rateHigh x
  | presentDelayExpiry => exact execPresentDelayExpiry_answers s
  | setupWindowExpiry => exact execSetupWindowExpiry_answers s
  | keyboardScan keys x => exact execKeyboardScan_answers s (Eq.refl true) keys x
  | repeatTimerExpiry x => exact execRepeatTimerExpiry_answers s x
  | dozeScan keys a b x => exact execDozeScan_answers s (Eq.refl true) keys a b x
  | soundEnd => exact execSoundEnd_answers s
  | cupsUnseated a b => exact execCupsUnseated_answers s (Eq.refl true) a b
  | cupsSeated => exact execCupsSeated_answers s (Eq.refl true)
  | micEdge t => exact execMicEdge_answers s t
  | carrierWindowEnd => exact execCarrierWindowEnd_answers s
  | receivedCharacter => exact execReceivedCharacter_answers s
  | receivedBreak => exact execReceivedBreak_answers s
  | receiveSampleEvent => exact execReceiveSampleEvent_answers s
  | characterBoundary => exact execCharacterBoundary_answers s
  | frameBitStart => exact execFrameBitStart_answers s
  | breakSpaceEnd => exact execBreakSpaceEnd_answers s
  | breakGuardEnd => exact execBreakGuardEnd_answers s
  | loopTestEnd => exact execLoopTestEnd_answers s
  | testAccumulatorCrossing => exact execTestAccumulatorCrossing_answers s
  | carrierWaitExpiry => exact execCarrierWaitExpiry_answers s
  | fadeExpiry => exact execFadeExpiry_answers s
  | unseatExpiry => exact execUnseatExpiry_answers s
  | silenceExpiry => exact execSilenceExpiry_answers s
  | takePrqCell m => exact execTakePrqCell_answers s m
  | idleFlushExpiry x => exact execIdleFlushExpiry_answers s x
  | watchSample x => exact execWatchSample_answers s x
  | burstPhaseEnd => exact execBurstPhaseEnd_answers s
  | halfStepStart => exact execHalfStepStart_answers s (.inl rfl)
  | dotLineEnd x => exact execDotLineEnd_answers s x
  | budgetTick => exact execBudgetTick_answers s
  | settleExpiry x => exact execSettleExpiry_answers s x
  | raiseBarrierExpiry => exact execRaiseBarrierExpiry_answers s
  | restateExpiry => exact execRestateExpiry_answers s
  | parkExpiry => exact execParkExpiry_answers s
  | sendWaitEnd wave => exact execSendWaitEnd_answers s wave
  | attemptCompleted => exact execAttemptCompleted_answers s (Eq.refl true)
  | attemptLost bit => exact execAttemptLost_answers s bit
  | lineFault bit => exact execLineFault_answers s bit
  | wireBreak wave => exact execWireBreak_answers s wave
  | messageReceived wave x =>
    exact execMessageReceived_answers s (fun l h => by cases l <;> simp_all [mayDo, Instr.mayRestart, Label.InMessage]) wave x
  | messageRejected wave cause => exact execMessageRejected_answers s wave cause
  | markerCharacterInDoze wave x => exact execMarkerCharacterInDoze_answers s wave x
  | keysGatherExpiry => exact execKeysGatherExpiry_answers s
  | receivedTextGatherExpiry => exact execReceivedTextGatherExpiry_answers s
  | allowance m src body => exact execAllowance_answers s m src body
  | claim m src body => exact execClaim_answers s m src body
  | present m src body => exact execPresent_answers s m src body
  | unknownKind m src kind body => exact execUnknownKind_answers s trivial m src kind body
  | setup m src body => exact execSetup_answers s trivial (.inl rfl) m src body
  | printText m src body => exact execPrintText_answers s trivial m src body
  | sendText m src body => exact execSendText_answers s trivial m src body
  | originate m src args => exact execOriginate_answers s trivial (.inl rfl) m src args
  | answer m src args => exact execAnswer_answers s trivial (.inl rfl) m src args
  | drop m src args => exact execDrop_answers s trivial m src args
  | breakRequest m src args => exact execBreakRequest_answers s trivial m src args
  | loopTest m src args => exact execLoopTest_answers s trivial m src args
  | hold m src args => exact execHold_answers s trivial m src args
  | resume m src args => exact execResume_answers s trivial m src args
  | stopNow m src args => exact execStopNow_answers s trivial (.inl rfl) m src args
  | stepLine m src args => exact execStepLine_answers s trivial m src args
  | setDarkness m src args => exact execSetDarkness_answers s trivial (.inl rfl) m src args
  | setWidth m src args => exact execSetWidth_answers s trivial (.inl rfl) m src args
  | routing m src body => exact execRouting_answers s trivial (.inl rfl) m src body
  | statusQuery m src body => exact execStatusQuery_answers s trivial m src body
  | doze m src body => exact execDoze_answers s trivial m src body
  | enterDoze => exact execEnterDoze_answers s
  | restart m src broadcast body => exact execRestart_answers s (Eq.refl true) m src broadcast body
  | rawDotLine m src body => exact execRawDotLine_answers s trivial m src body
  | cupSwitchReading a b => exact execCupSwitchReading_answers s (Eq.refl true) a b

/-- What a command that is executed does. -/
theorem exec_does {c : Instr} {s t : State} (h : exec c s = .next t) : Does (mayDo c) s t := by
  obtain ⟨t', e, does⟩ := exec_answers c s
  cases h.symm.trans e
  exact does

/-- A step is a run of moves: one µs makes none, and a command makes those of its execution. -/
theorem step_does {s t : State} (h : step s = .next t) :
    ∃ (L : Label → Prop) (rest : List Instr), Does L (s.setPending rest) t := by
  unfold step at h
  split at h
  · cases h
    exact ⟨fun _ => True, s.pending, .of_eq (s.digest_advanceTo _)⟩
  · exact ⟨_, _, exec_does h⟩

end Sys2Proof.Machine

/-! PROOFS. The pool's laws under each change of the pool (R2, R5, R10). -/

namespace Sys2Proof.Machine

/-! ## Sound chains -/

/-- A block with all its cells written. -/
def Block.Full (b : Block) : Prop := b.cells.length = Config.blockCells

theorem bodySound_cons_iff (b : Block) (rest : List Block) :
    bodySound (b :: rest) = true ↔
      b.sound = true ∧ b.consumed = 0 ∧ (rest ≠ [] → b.Full) ∧ bodySound rest = true := by
  cases rest <;> simp [bodySound, Block.Full, and_assoc]

theorem chainSound_cons_iff (b : Block) (rest : List Block) :
    chainSound (b :: rest) = true ↔ b.sound = true ∧ (rest ≠ [] → b.Full) ∧ bodySound rest = true := by
  cases rest <;> simp [chainSound, bodySound, Block.Full, and_assoc]

theorem bodySound_concat_iff (front : List Block) (b : Block) :
    bodySound (front ++ [b]) = true ↔
      (∀ x ∈ front, x.sound = true ∧ x.consumed = 0 ∧ x.Full) ∧ b.sound = true ∧ b.consumed = 0 := by
  induction front with
  | nil => simp [bodySound]
  | cons x rest ih => simp [bodySound_cons_iff, ih, and_assoc]

theorem chainSound_of_bodySound {bs : List Block} (h : bodySound bs = true) : chainSound bs = true := by
  cases bs with
  | nil => rfl
  | cons b rest =>
    obtain ⟨sound, -, full, others⟩ := (bodySound_cons_iff b rest).1 h
    exact (chainSound_cons_iff b rest).2 ⟨sound, full, others⟩

theorem Block.sound_iff (b : Block) : b.sound = true ↔ b.consumed < b.cells.length ∧ b.cells.length ≤ 16 := by
  rw [Block.sound, Bool.and_eq_true, decide_eq_true_iff, decide_eq_true_iff]
  rfl

/-- A cell written into a tail with room keeps the chain sound. -/
theorem chainSound_write {front : List Block} {b : Block} (cell : Cell) (h : chainSound (front ++ [b]) = true)
    (room : b.cells.length < 16) : chainSound (front ++ [{ b with cells := b.cells ++ [cell] }]) = true := by
  have written (sound : b.sound = true) : ({ b with cells := b.cells ++ [cell] } : Block).sound = true := by
    rw [Block.sound_iff] at sound ⊢
    simp
    omega
  cases front with
  | nil =>
    simp only [List.nil_append, chainSound_cons_iff, bodySound, ne_eq, not_true_eq_false, false_implies, and_true]
      at h ⊢
    exact written h
  | cons x rest =>
    rw [List.cons_append, chainSound_cons_iff, bodySound_concat_iff] at h ⊢
    obtain ⟨xSound, full, others, sound, consumed⟩ := h
    exact ⟨xSound, fun _ => full (by simp), others, written sound, consumed⟩

/-- A block with one cell joined behind a chain without room keeps it sound. -/
theorem chainSound_join {bs : List Block} (id : Nat) (cell : Cell) (h : chainSound bs = true) (full : tailRoom bs = 0) :
    chainSound (bs ++ [{ id := id, cells := [cell], consumed := 0 }]) = true := by
  have fresh : ({ id := id, cells := [cell], consumed := 0 } : Block).sound = true := by simp [Block.sound_iff]
  have tailFull (b : Block) (sound : b.sound = true) (noRoom : 16 - b.cells.length = 0) : b.Full := by
    rw [Block.sound_iff] at sound
    exact Nat.le_antisymm sound.2 (by simp only [Config.blockCells]; omega)
  rcases List.eq_nil_or_concat bs with rfl | ⟨front, b, rfl⟩
  · exact (chainSound_cons_iff _ _).2 ⟨fresh, fun h => absurd rfl h, rfl⟩
  · rw [List.concat_eq_append, tailRoom_append_singleton] at full
    rw [List.concat_eq_append] at h ⊢
    cases front with
    | nil =>
      obtain ⟨sound, -, -⟩ := (chainSound_cons_iff _ _).1 h
      exact (chainSound_cons_iff _ _).2 ⟨sound, fun _ => tailFull b sound full,
        (bodySound_cons_iff _ _).2 ⟨fresh, rfl, fun h => absurd rfl h, rfl⟩⟩
    | cons x rest =>
      rw [List.cons_append, chainSound_cons_iff, bodySound_concat_iff] at h
      obtain ⟨xSound, xFull, others, sound, consumed⟩ := h
      rw [List.cons_append, List.cons_append, chainSound_cons_iff, bodySound_concat_iff, List.forall_mem_append,
        List.forall_mem_singleton]
      exact ⟨xSound, fun _ => xFull (by simp), ⟨others, sound, consumed, tailFull b sound full⟩, fresh, rfl⟩

/-- The head block's next cell taken, the block staying, keeps the chain sound. -/
theorem chainSound_consume {b : Block} {rest : List Block} (h : chainSound (b :: rest) = true)
    (more : b.consumed + 1 < b.cells.length) : chainSound ({ b with consumed := b.consumed + 1 } :: rest) = true := by
  rw [chainSound_cons_iff] at h ⊢
  obtain ⟨sound, full, others⟩ := h
  rw [Block.sound_iff] at sound
  exact ⟨(Block.sound_iff _).2 ⟨more, sound.2⟩, full, others⟩

/-! ## The law of a pool with one chain and the free stack replaced -/

theorem Pool.Law.soundChain {p : Pool} (h : p.Law) (c : Chain) : chainSound (p.chain c) = true := by
  cases c
  · exact h.txq.2
  · exact h.prq.2
  · exact h.fwq.2

/-- The numbers of the blocks of a chain with those of the free stack. -/
def idsWith (ids : List Nat) (bs : List Block) : List Nat := ids ++ bs.map Block.id

theorem Pool.Law.restock {p : Pool} (law : p.Law) {c : Chain} {ids : List Nat} {bs : List Block} (lost : Bool)
    (once : (idsWith ids bs).Perm (idsWith p.free (p.chain c))) (cap : bs.length ≤ c.cap) (sound : chainSound bs = true)
    (copied : c = .fwq → p.fwqInMessage ≤ (chainCells bs).length) : (p.restock c ids bs lost).Law := by
  have perm : (p.restock c ids bs lost).allIds.Perm p.allIds := by
    rw [List.perm_iff_count] at once ⊢
    intro a
    have := once a
    cases c <;>
      simp only [idsWith, Pool.allIds, Pool.restock, Pool.setFree, Pool.setChain, Pool.setLost, Pool.chain,
        List.count_append] at this ⊢ <;>
      omega
  cases c with
  | txq => exact { law with once := perm.trans law.once, txq := ⟨cap, sound⟩ }
  | prq => exact { law with once := perm.trans law.once, prq := ⟨cap, sound⟩ }
  | fwq => exact { law with
      once := perm.trans law.once, fwq := ⟨cap, sound⟩, copied := ⟨copied rfl, law.copied.2⟩ }

/-! ## Storing -/

/-- A cell is stored in a tail with room or in the top free block (R6). -/
theorem Pool.store_cases {p q : Pool} {c : Chain} {cell : Cell} (h : p.store c cell = some q) :
    (∃ front b, p.chain c = front ++ [b] ∧ b.cells.length < 16
        ∧ q = p.restock c p.free (front ++ [{ b with cells := b.cells ++ [p.marked c cell] }]) false)
      ∨ ∃ id rest, tailRoom (p.chain c) = 0 ∧ (p.chain c).length < c.cap ∧ p.free = id :: rest
        ∧ q = p.restock c rest (p.chain c ++ [{ id := id, cells := [p.marked c cell], consumed := 0 }]) false := by
  rcases Nat.eq_zero_or_pos (tailRoom (p.chain c)) with full | room
  · have below : (p.chain c).length < c.cap := by
      by_contra atCap
      simp [Pool.store, Pool.putCell, full, atCap] at h
    cases free : p.free with
    | nil => simp [Pool.store, Pool.putCell, full, below, free] at h
    | cons id rest =>
      rw [p.store_of_freeBlock cell full below free, Option.some.injEq] at h
      exact .inr ⟨id, rest, full, below, rfl, h.symm⟩
  · obtain ⟨front, b, chain, hb⟩ := exists_tail_of_tailRoom_pos room
    rw [p.store_of_tail cell chain hb, Option.some.injEq] at h
    exact .inl ⟨front, b, chain, hb, h.symm⟩

theorem Pool.Law.store {p q : Pool} (law : p.Law) {c : Chain} {cell : Cell} (h : p.store c cell = some q) : q.Law := by
  have within := (law.chain c).2
  have copied (d : Chain) (e : d = .fwq) : p.fwqInMessage ≤ (chainCells (p.chain d)).length := by
    subst e
    exact law.copied.1
  rcases Pool.store_cases h with ⟨front, b, chain, room, rfl⟩ | ⟨id, rest, full, below, free, rfl⟩
  · have cells := (p.stored_in_tail (p.marked c cell) chain within).cells
    have sound := law.soundChain c
    have cap := (law.chain c).1
    rw [Pool.restock_chain] at cells
    refine law.restock false ?_ ?_ (chainSound_write _ (chain ▸ sound) room) fun e => ?_
    · rw [chain]
      simp [idsWith]
    · rw [chain] at cap
      simpa using cap
    · rw [cells, List.length_append]
      exact (copied c e).trans (Nat.le_add_right _ _)
  · have cells := (p.stored_in_freeBlock (p.marked c cell) free within).cells
    rw [Pool.restock_chain] at cells
    refine law.restock false ?_ (by simpa using below) (chainSound_join id _ (law.soundChain c) full) fun e => ?_
    · rw [free, List.perm_iff_count]
      intro a
      simp only [idsWith, List.map_append, List.map_cons, List.map_nil, List.count_append, List.count_cons, List.count_nil]
      omega
    · rw [cells, List.length_append]
      exact (copied c e).trans (Nat.le_add_right _ _)

theorem Pool.Law.putBody {c : Chain} (codes : List Byte) {p : Pool} (law : p.Law) : (p.putBody c codes).Law := by
  induction codes generalizing p with
  | nil => exact law
  | cons code rest ih =>
    unfold Pool.putBody
    split
    · next stored => exact ih (law.store stored)
    · exact law

theorem Pool.Law.of_storeBody {p q : Pool} (law : p.Law) {c : Chain} {codes : List Byte} (h : p.storeBody c codes = some q) :
    q.Law := by
  unfold Pool.storeBody at h
  split at h
  · cases h
    exact law.putBody codes
  · cases h

/-! ## Taking and discarding -/

/-- A cell taken is the head block's next one, and the block stays or goes on top of the free stack (R9). -/
theorem Pool.take_cases {p q : Pool} {c : Chain} {cell : Cell} (h : p.take c = some (cell, q)) :
    ∃ b rest, p.chain c = b :: rest ∧ b.cells[b.consumed]? = some cell
      ∧ (b.consumed + 1 = b.cells.length ∧ q = p.restock c (b.id :: p.free) rest (p.lost c)
        ∨ b.consumed + 1 ≠ b.cells.length
          ∧ q = p.restock c p.free ({ b with consumed := b.consumed + 1 } :: rest) (p.lost c)) := by
  unfold Pool.take at h
  split at h
  · cases h
  · next b rest chain =>
    split at h
    · cases h
    · next cell' inBlock =>
      refine ⟨b, rest, chain, ?_⟩
      split at h
      · next last =>
        cases h
        exact ⟨inBlock, .inl ⟨last, by cases c <;> rfl⟩⟩
      · next more =>
        cases h
        exact ⟨inBlock, .inr ⟨more, by cases c <;> rfl⟩⟩

theorem Pool.Law.take {p q : Pool} (law : p.Law) {c : Chain} {cell : Cell} (h : p.take c = some (cell, q))
    (free : c = .fwq → p.fwqInMessage = 0) : q.Law := by
  obtain ⟨b, rest, chain, inBlock, ⟨last, rfl⟩ | ⟨more, rfl⟩⟩ := Pool.take_cases h
  · have sound := law.soundChain c
    have cap := (law.chain c).1
    rw [chain] at sound cap
    refine law.restock _ ?_ ((Nat.le_succ _).trans cap) (chainSound_of_bodySound ((chainSound_cons_iff b rest).1 sound).2.2)
      fun e => by simp [free e]
    rw [chain, List.perm_iff_count]
    intro a
    simp only [idsWith, List.map_cons, List.count_append, List.count_cons]
    omega
  · have sound := law.soundChain c
    have cap := (law.chain c).1
    have within : b.consumed < b.cells.length := by
      by_contra past
      simp [List.getElem?_eq_none (Nat.not_lt.1 past)] at inBlock
    rw [chain] at sound cap
    refine law.restock _ ?_ cap (chainSound_consume sound (by omega)) fun e => by simp [free e]
    simp [chain, idsWith]

theorem Pool.Law.uncopied {p : Pool} (law : p.Law) : ({ p with fwqInMessage := 0 } : Pool).Law :=
  { law with copied := ⟨Nat.zero_le _, Nat.zero_le _⟩ }

theorem Pool.Law.takeCells {p : Pool} (law : p.Law) (n : Nat) (free : p.fwqInMessage = 0) : (p.takeCells n).Law := by
  induction n generalizing p with
  | zero => exact law
  | succ n ih =>
    unfold Pool.takeCells
    split
    · next r taken =>
      refine ih (law.take taken fun _ => free) ?_
      obtain ⟨b, rest, -, -, ⟨-, e⟩ | ⟨-, e⟩⟩ := Pool.take_cases taken
      · rw [e]; exact free
      · rw [e]; exact free
    · exact law

/-- The in-message count has no part in what is taken. -/
theorem Pool.takeCells_uncopied (p : Pool) (n : Nat) :
    { p.takeCells n with fwqInMessage := 0 } = ({ p with fwqInMessage := 0 } : Pool).takeCells n := by
  induction n generalizing p with
  | zero => rfl
  | succ n ih =>
    have same : ({ p with fwqInMessage := 0 } : Pool).take .fwq
        = (p.take .fwq).map fun r => (r.1, { r.2 with fwqInMessage := 0 }) := by
      unfold Pool.take Pool.chain
      dsimp only
      (repeat' split) <;> simp_all <;> rfl
    unfold Pool.takeCells
    rw [same]
    cases p.take .fwq with
    | none => rfl
    | some r => exact ih r.2

theorem Pool.Law.discard {p : Pool} (law : p.Law) (c : Chain) : (p.discard c).Law := by
  have emptied : p.discard c = (if c = .fwq then { p with fwqInMessage := 0 } else p).restock c
      ((p.chain c).reverse.map Block.id ++ p.free) [] false := by cases c <;> rfl
  have base : (if c = .fwq then { p with fwqInMessage := 0 } else p : Pool).Law := by
    split
    · exact law.uncopied
    · exact law
  rw [emptied]
  refine base.restock false ?_ (Nat.zero_le _) rfl fun e => by simp [e]
  rw [List.perm_iff_count]
  intro a
  have : (if c = .fwq then { p with fwqInMessage := 0 } else p : Pool).free = p.free := by split <;> rfl
  have : (if c = .fwq then { p with fwqInMessage := 0 } else p : Pool).chain c = p.chain c := by cases c <;> rfl
  simp_all [idsWith, List.map_reverse, List.count_append]
  omega

theorem Pool.Law.setLost {p : Pool} (law : p.Law) (c : Chain) (v : Bool) : (p.setLost c v).Law := by
  cases c <;> exact { law with }

theorem Pool.Law.reset : Pool.reset.Law where
  once := by simp [Pool.allIds, Pool.reset]
  txq := by decide
  prq := by decide
  fwq := by decide
  copied := by decide

/-- Every change of the pool keeps its laws. -/
theorem PoolMove.law {carrying : Bool} {p q : Pool} (h : PoolMove carrying p q) (law : p.Law) : q.Law := by
  cases h with
  | store _ stored => exact law.store stored
  | body _ stored => exact law.of_storeBody stored
  | take notFwq taken => exact law.take taken (absurd · notFwq)
  | lost c => exact law.setLost c true
  | discardFwq => exact law.discard .fwq
  | textGone n =>
    rw [Pool.takeCells_uncopied]
    exact law.uncopied.takeCells n rfl
  | textBuilt => exact { law with copied := ⟨List.length_take_le' _ _, List.length_take_le _ _⟩ }

end Sys2Proof.Machine

/-! PROOFS. The laws that every step keeps (R2, R5, R10, R12, R51, R79, R80, R88, R91, R144, R147, R158 to R163, R186, R187), from
the moves; and the one that a step can break. -/

namespace Sys2Proof.Machine

/-- What every move keeps, and the queue of waiting commands has no part in, every step keeps. -/
theorem step_keeps {P : Digest → Prop} (moves : ∀ {L : Label → Prop} {d e : Digest}, Move L d e → P d → P e)
    (waiting : ∀ (d : Digest) (x : List Instr), P d → P { d with pending := x }) {s t : State} (h : step s = .next t)
    (law : P s.digest) : P t.digest := by
  obtain ⟨L, rest, does⟩ := step_does h
  exact Moves.keeps (fun _ _ => moves) does (waiting s.digest rest law)

/-! ## The pool -/

theorem Move.poolLaw {L : Label → Prop} {d e : Digest} (h : Move L d e) (law : d.pool.Law) : e.pool.Law := by
  cases h with
  | pool h => exact h.law law
  | dropping => exact law.discard .txq
  | restart => exact ((law.discard .txq).discard .prq).discard .fwq
  | powerUp => exact .reset
  | _ => exact law

/-- Settles O8: each move keeps the pool's laws, and a step is a run of moves. -/
theorem poolLawKept : Obligations.PoolLawKept :=
  fun _ _ law h => step_keeps (P := fun d => d.pool.Law) Move.poolLaw (fun _ _ law => law) h law

/-! ## The key FIFO and the outbound queues -/

/-- The key FIFO's law, of what the digest holds of it. -/
structure KeyView.Law (k : KeyView) : Prop where
  size : k.fifo.length ≤ Config.keyFifoSize
  within : k.inMessage ≤ k.fifo.length
  few : k.inMessage ≤ Config.keysPerMessage
  empty : k.slot = none ↔ k.inMessage = 0
  records : ∀ rs, k.slot = some rs → rs = k.fifo.take k.inMessage

theorem State.keyLaw_iff (s : State) : s.KeyLaw ↔ s.digest.keys.Law := by
  constructor
  · intro ⟨size, ⟨within, few⟩, empty, records⟩
    refine ⟨size, within, few, by simpa [State.digest, keyView] using empty, fun rs slot => ?_⟩
    obtain ⟨k, inSlot, rfl⟩ := Option.map_eq_some_iff.1 slot
    exact records k inSlot
  · intro ⟨size, within, few, empty, records⟩
    exact ⟨size, ⟨within, few⟩, by simpa [State.digest, keyView] using empty,
      fun k inSlot => records _ (Option.map_eq_some_iff.2 ⟨k, inSlot, rfl⟩)⟩

theorem KeyView.Law.none : (⟨[], 0, none⟩ : KeyView).Law where
  size := Nat.zero_le _
  within := Nat.zero_le _
  few := Nat.zero_le _
  empty := by simp
  records := nofun

theorem KeyMove.law {k k' : KeyView} (h : KeyMove k k') (law : k.Law) : k'.Law := by
  cases h with
  | record r room =>
    refine ⟨by simpa using room, by simpa using Nat.le_succ_of_le law.within, law.few, law.empty, fun rs slot => ?_⟩
    rw [law.records rs slot, List.take_append_of_le_length law.within]
  | built waiting free =>
    have pos : 0 < k.fifo.length := List.length_pos_iff.2 waiting
    refine ⟨law.size, List.length_take_le' _ _, List.length_take_le _ _, ?_, fun rs slot => ?_⟩
    · simp [Config.keysPerMessage, waiting]
    · obtain rfl := Option.some.inj slot
      simp
  | gone =>
    exact ⟨by simpa using Nat.le_trans (Nat.sub_le _ _) law.size, Nat.zero_le _, Nat.zero_le _, by simp, nofun⟩
  | emptied => exact .none

theorem Move.keyLaw {L : Label → Prop} {d e : Digest} (h : Move L d e) (law : d.keys.Law) : e.keys.Law := by
  cases h with
  | keys h => exact h.law law
  | restart => exact .none
  | powerUp => exact .none
  | _ => exact law

structure QueueView.Law (q : QueueView) : Prop where
  replies : q.replies ≤ Config.replyQueueSize
  notices : q.notices.Nodup

theorem State.queueLaw_iff (s : State) : s.QueueLaw ↔ s.digest.queues.Law := ⟨fun ⟨h, g⟩ => ⟨h, g⟩, fun ⟨h, g⟩ => ⟨h, g⟩⟩

theorem QueueView.Law.none : (⟨0, []⟩ : QueueView).Law := ⟨Nat.zero_le _, List.nodup_nil⟩

theorem QueueMove.law {L : Label → Prop} {q q' : QueueView} (h : QueueMove L q q') (law : q.Law) : q'.Law := by
  cases h with
  | posted k fresh => exact { law with notices := by simpa [List.nodup_append, fresh] using ⟨law.notices, fun a h e => fresh (e ▸ h)⟩ }
  | noticesLeft sub => exact { law with notices := sub.nodup law.notices }
  | replied _ room => exact { law with replies := room }
  | repliesLeft fewer => exact { law with replies := fewer.trans law.replies }

theorem Move.queueLaw {L : Label → Prop} {d e : Digest} (h : Move L d e) (law : d.queues.Law) : e.queues.Law := by
  cases h with
  | queues h => exact h.law law
  | restart => exact .none
  | powerUp => exact .none
  | _ => exact law

/-- Settles O20: the KEYS message in its slot stays the front of the FIFO under each move, and a queue grows only behind its
test. -/
theorem keyAndQueueLawsKept : Obligations.KeyAndQueueLawsKept := by
  constructor
  · intro s t law h
    rw [State.keyLaw_iff] at law ⊢
    exact step_keeps (P := fun d => d.keys.Law) Move.keyLaw (fun _ _ law => law) h law
  · intro s t law h
    rw [State.queueLaw_iff] at law ⊢
    exact step_keeps (P := fun d => d.queues.Law) Move.queueLaw (fun _ _ law => law) h law

/-! ## The call -/

/-- The call's law, of what the digest holds of it. -/
structure CallView.Law (c : CallView) : Prop where
  idle : c.st = .idle → c.seated = false
  ready : c.st = .ready → c.seated = true
  params : c.st = .origWait ∨ c.st = .ansTone ∨ c.st.carrying = true → c.params.isSome = true
  muted : c.muted = true → c.st.carrying = true
  breaking : c.breaking = true → c.st.carrying = true

theorem State.callLaw_iff (s : State) : s.CallLaw ↔ s.digest.call.Law :=
  ⟨fun ⟨a, b, c, d, e⟩ => ⟨a, b, c, d, e⟩, fun ⟨a, b, c, d, e⟩ => ⟨a, b, c, d, e⟩⟩

/-- In a state that carries no text the call is neither muted nor breaking. -/
theorem CallView.Law.quiet {c : CallView} (law : c.Law) (h : c.st.carrying = false) : c.muted = false ∧ c.breaking = false := by
  have := law.muted
  have := law.breaking
  simp_all

/-- A call at rest, with READY or IDLE by the cups. -/
theorem CallView.Law.atRest (c : CallView) (muted : c.muted = false) (breaking : c.breaking = false) :
    ({ c with st := restState c.seated } : CallView).Law where
  idle := by cases c.seated <;> simp [restState]
  ready := by cases c.seated <;> simp [restState]
  params := by cases c.seated <;> simp [restState, CallState.carrying]
  muted := by simp [muted]
  breaking := by simp [breaking]

theorem CallMove.law {L : Label → Prop} {c c' : CallView} (h : CallMove L c c') (law : c.Law) : c'.Law := by
  cases h with
  | breakBegun online => exact { law with breaking := fun _ => by simp [online, CallState.carrying] }
  | breakOver => exact { law with breaking := nofun }
  | rested resting =>
    obtain ⟨muted, breaking⟩ := law.quiet (by rcases resting with h | h <;> simp [h, CallState.carrying])
    exact .atRest c muted breaking
  | online qualified =>
    have params : c.params.isSome = true :=
      law.params (qualified.imp_right (.imp_right fun h => by simp [h, CallState.carrying]))
    exact ⟨nofun, nofun, fun _ => params, fun _ => rfl, fun _ => rfl⟩
  | fading online =>
    have params : c.params.isSome = true := law.params (.inr (.inr (by simp [online, CallState.carrying])))
    exact ⟨nofun, nofun, fun _ => params, fun _ => rfl, fun _ => rfl⟩
  | looped free =>
    obtain ⟨muted, breaking⟩ := law.quiet (by rcases free with h | h <;> simp [h, CallState.carrying])
    exact ⟨nofun, nofun, by simp [CallState.carrying], by simp [muted], by simp [breaking]⟩
  | placed _ ready p waiting =>
    obtain ⟨muted, breaking⟩ := law.quiet (by simp [ready, CallState.carrying])
    rcases waiting with rfl | rfl <;> exact ⟨nofun, nofun, fun _ => rfl, by simp [muted], by simp [breaking]⟩
  | lifted =>
    by_cases ready : c.st = .ready
    · obtain ⟨muted, breaking⟩ := law.quiet (by simp [ready, CallState.carrying])
      simp only [ready, if_true]
      exact ⟨fun _ => rfl, nofun, by simp [CallState.carrying], by simp [muted], by simp [breaking]⟩
    · simp only [ready, if_false]
      exact { law with idle := fun _ => rfl, ready := fun h => absurd h ready }
  | seated =>
    by_cases idle : c.st = .idle
    · obtain ⟨muted, breaking⟩ := law.quiet (by simp [idle, CallState.carrying])
      simp only [idle, if_true]
      exact ⟨nofun, fun _ => rfl, by simp [CallState.carrying], by simp [muted], by simp [breaking]⟩
    · simp only [idle, if_false]
      exact { law with idle := fun h => absurd h idle, ready := fun _ => rfl }
  | muted inCall => exact { law with muted := fun _ => inCall }
  | unmuted => exact { law with muted := nofun }

theorem Move.callLaw {L : Label → Prop} {d e : Digest} (h : Move L d e) (law : d.call.Law) : e.call.Law := by
  cases h with
  | call h => exact h.law law
  | dropping => exact ⟨nofun, nofun, by simp [CallState.carrying], nofun, nofun⟩
  | restart => exact .atRest ⟨_, d.call.st, _, _, _⟩ rfl rfl
  | powerUp => exact ⟨fun _ => rfl, nofun, by simp [State.powerUp, State.digest, Call.view, Call.reset, CallState.carrying], nofun, nofun⟩
  | _ => exact law

/-- TXQ holds nothing outside ONLINE and FADING (R12). -/
def Digest.TxqLaw (d : Digest) : Prop := d.call.st.carrying = false → d.pool.txq = []

theorem Pool.restock_txq_of_ne (p : Pool) {c : Chain} (ids : List Nat) (bs : List Block) (lost : Bool) (other : c ≠ .txq) :
    (p.restock c ids bs lost).txq = p.txq := by
  cases c
  · exact absurd rfl other
  · rfl
  · rfl

theorem Pool.store_txq {p q : Pool} {c : Chain} {cell : Cell} (h : p.store c cell = some q) (other : c ≠ .txq) :
    q.txq = p.txq := by
  rcases Pool.store_cases h with ⟨_, _, _, _, rfl⟩ | ⟨_, _, _, _, _, rfl⟩ <;> exact p.restock_txq_of_ne _ _ _ other

theorem Pool.putBody_txq {c : Chain} (codes : List Byte) (p : Pool) (other : c ≠ .txq) : (p.putBody c codes).txq = p.txq := by
  induction codes generalizing p with
  | nil => rfl
  | cons code rest ih =>
    unfold Pool.putBody
    split
    · next stored => rw [ih, Pool.store_txq stored other]
    · rfl

theorem Pool.take_txq {p q : Pool} {c : Chain} {cell : Cell} (h : p.take c = some (cell, q)) (other : c ≠ .txq) :
    q.txq = p.txq := by
  obtain ⟨_, _, _, _, ⟨_, rfl⟩ | ⟨_, rfl⟩⟩ := Pool.take_cases h <;> exact p.restock_txq_of_ne _ _ _ other

theorem Pool.takeCells_txq (p : Pool) (n : Nat) : (p.takeCells n).txq = p.txq := by
  induction n generalizing p with
  | zero => rfl
  | succ n ih =>
    unfold Pool.takeCells
    split
    · next taken => rw [ih, Pool.take_txq taken (by decide)]
    · rfl

/-- Nothing enters TXQ but during a call, and an empty TXQ stays empty. -/
theorem PoolMove.txq {carrying : Bool} {p q : Pool} (h : PoolMove carrying p q) (quiet : carrying = false)
    (empty : p.txq = []) : q.txq = [] := by
  cases h with
  | store inCall stored => rwa [Pool.store_txq stored fun e => by simp [inCall e] at quiet]
  | body inCall stored =>
    unfold Pool.storeBody at stored
    split at stored
    · cases stored
      rwa [Pool.putBody_txq _ _ fun e => by simp [inCall e] at quiet]
    · cases stored
  | @take c cell _ _ taken =>
    by_cases txq : c = .txq
    · subst txq
      obtain ⟨b, rest, chain, -⟩ := Pool.take_cases taken
      exact absurd (chain.symm.trans empty) (List.cons_ne_nil _ _)
    · rwa [Pool.take_txq taken txq]
  | lost c => cases c <;> exact empty
  | discardFwq => exact empty
  | textGone n => exact (Pool.takeCells_txq p n).trans empty
  | textBuilt => exact empty

/-- A call is left through DROPPING alone, which discards TXQ, or by a restart. -/
theorem CallMove.carrying {L : Label → Prop} {c c' : CallView} (h : CallMove L c c') (after : c'.st.carrying = false) :
    c.st.carrying = false := by
  cases h with
  | rested resting => rcases resting with h | h <;> simp [h, CallState.carrying]
  | online => exact absurd after (by simp [CallState.carrying])
  | fading => exact absurd after (by simp [CallState.carrying])
  | looped free => rcases free with h | h <;> simp [h, CallState.carrying]
  | placed _ ready => simp [ready, CallState.carrying]
  | lifted =>
    by_cases ready : c.st = .ready
    · simp [ready, CallState.carrying]
    · simpa [ready] using after
  | seated =>
    by_cases idle : c.st = .idle
    · simp [idle, CallState.carrying]
    · simpa [idle] using after
  | _ => exact after

theorem Move.txqLaw {L : Label → Prop} {d e : Digest} (h : Move L d e) (law : d.TxqLaw) : e.TxqLaw := by
  cases h with
  | pool h => exact fun quiet => h.txq quiet (law quiet)
  | call h => exact fun quiet => law (h.carrying quiet)
  | dropping => exact fun _ => rfl
  | restart => exact fun _ => rfl
  | powerUp => exact fun _ => rfl
  | _ => exact law

/-- Settles O34: each move of the call agrees with the cups, the parameters and the flags; TXQ takes cells during a call alone,
and a call is left with TXQ discarded. -/
theorem callLawsKept : Obligations.CallLawsKept := by
  constructor
  · intro s t law h
    rw [State.callLaw_iff] at law ⊢
    exact step_keeps (P := fun d => d.call.Law) Move.callLaw (fun _ _ law => law) h law
  · intro s t law h
    exact step_keeps (P := Digest.TxqLaw) Move.txqLaw (fun _ _ law => law) h law

/-! ## The engine -/

/-- The engine's law, of what the digest holds of it. -/
structure EngineView.Law (e : EngineView) : Prop where
  held : e.st = .held ↔ e.holds.any = true
  free : e.cause = none ↔ e.holds.any = false
  present : ∀ c, e.cause = some c → e.holds.has c = true

theorem State.heldLaw_iff (s : State) : s.HeldLaw ↔ s.digest.engine.Law :=
  ⟨fun ⟨a, b, c⟩ => ⟨a, b, c⟩, fun ⟨a, b, c⟩ => ⟨a, b, c⟩⟩

theorem HoldSet.any_of_has {h : HoldSet} {c : Hold} (has : h.has c = true) : h.any = true := by
  cases c <;> simp_all [HoldSet.has, HoldSet.any]

/-- HELD with a condition present that is the cause. -/
theorem EngineView.Law.ofHeld {h : HoldSet} {c : Hold} (phase : BitVec 3) (has : h.has c = true) :
    (⟨.held, h, some c, phase⟩ : EngineView).Law where
  held := by simp [HoldSet.any_of_has has]
  free := by simp [HoldSet.any_of_has has]
  present := by simpa using has

theorem EngineMove.law {L : Label → Prop} {e e' : EngineView} (h : EngineMove L e e') (law : e.Law) : e'.Law := by
  cases h with
  | held highest => exact .ofHeld _ (HoldSet.has_of_highest highest)
  | kept present has =>
    have held := law.held.2 present
    exact ⟨by simp [held, HoldSet.any_of_has has], by simp [HoldSet.any_of_has has], by simpa using has⟩
  | goes st free notHeld =>
    have none : e.holds.any = false := free.elim (fun h => by simpa [h] using law.held) id
    exact { law with held := by simp [notHeld, none] }
  | resumed st notHeld => exact ⟨by simp [notHeld, HoldSet.any], by simp [HoldSet.any], nofun⟩
  | motor => exact { law with }

theorem EngineView.Law.ofReset (now : Nat) : (Engine.reset now).view.Law where
  held := by simp [Engine.reset, Engine.view, HoldSet.any]
  free := by simp [Engine.reset, Engine.view, HoldSet.any]
  present := nofun

theorem Move.heldLaw {L : Label → Prop} {d e : Digest} (h : Move L d e) (law : d.engine.Law) : e.engine.Law := by
  cases h with
  | engine h => exact h.law law
  | restart => exact .ofReset 0
  | powerUp => exact .ofReset 0
  | _ => exact law

section Fields

variable {L : Label → Prop} {d e : Digest}

theorem Move.straps_kept (power : ¬ L .straps) (h : Move L d e) :
    e.addr = d.addr ∧ e.fast = d.fast ∧ e.straps = d.straps := by
  cases h with
  | powerUp label => exact absurd label power
  | _ => exact ⟨rfl, rfl, rfl⟩

theorem Move.seated_kept (power : ¬ L .straps) (cups : ¬ L .cups) (h : Move L d e) : e.call.seated = d.call.seated := by
  cases h with
  | powerUp label => exact absurd label power
  | call h =>
    cases h with
    | lifted label => exact absurd label cups
    | seated label => exact absurd label cups
    | _ => rfl
  | _ => rfl

variable (power : ¬ L .straps) (restart : ¬ L .restart)
include power restart

theorem Move.setup_kept (setups : ¬ L .setup) (h : Move L d e) : e.setup = d.setup := by
  cases h with
  | powerUp label => exact absurd label power
  | restart label => exact absurd label restart
  | setup label => exact absurd label setups
  | _ => rfl

theorem Move.routing_kept (setups : ¬ L .setup) (routes : ¬ L .routes) (h : Move L d e) : e.routing = d.routing := by
  cases h with
  | powerUp label => exact absurd label power
  | restart label => exact absurd label restart
  | setup label => exact absurd label setups
  | routing label => exact absurd label routes
  | _ => rfl

theorem Move.params_kept (places : ¬ L .places) (h : Move L d e) : e.call.params = d.call.params := by
  cases h with
  | powerUp label => exact absurd label power
  | restart label => exact absurd label restart
  | call h =>
    cases h with
    | placed label => exact absurd label places
    | _ => rfl
  | _ => rfl

theorem Move.caps_kept (keys : ¬ L .keys) (h : Move L d e) : e.caps = d.caps := by
  cases h with
  | powerUp label => exact absurd label power
  | restart label => exact absurd label restart
  | caps label => exact absurd label keys
  | _ => rfl

theorem Move.localMode_kept (keys : ¬ L .keys) (h : Move L d e) : e.localMode = d.localMode := by
  cases h with
  | powerUp label => exact absurd label power
  | restart label => exact absurd label restart
  | localMode label => exact absurd label keys
  | _ => rfl

theorem Move.darkness_kept (setups : ¬ L .setup) (stages : ¬ L .darkness) (h : Move L d e) : e.darkness = d.darkness := by
  cases h with
  | powerUp label => exact absurd label power
  | restart label => exact absurd label restart
  | setup label => exact absurd label setups
  | darkness label => exact absurd label stages
  | _ => rfl

theorem Move.wide_kept (stages : ¬ L .width) (h : Move L d e) : e.wide = d.wide := by
  cases h with
  | powerUp label => exact absurd label power
  | restart label => exact absurd label restart
  | wide label => exact absurd label stages
  | _ => rfl

theorem Move.motorPhase_kept (steps : ¬ L .motor) (h : Move L d e) : e.engine.motorPhase = d.engine.motorPhase := by
  cases h with
  | powerUp label => exact absurd label power
  | restart label => exact absurd label restart
  | engine h =>
    cases h with
    | motor label => exact absurd label steps
    | _ => rfl
  | _ => rfl

theorem Move.completed_kept (sends : ¬ L .claimSent) (h : Move L d e) : e.claim.completed = d.claim.completed := by
  cases h with
  | powerUp label => exact absurd label power
  | restart label => exact absurd label restart
  | claim h =>
    cases h with
    | sent label => exact absurd label sends
    | _ => rfl
  | _ => rfl

theorem Move.listenOnly_kept (h : Move L d e) (listening : d.listenOnly = true) : e.listenOnly = true := by
  cases h with
  | powerUp label => exact absurd label power
  | restart label => exact absurd label restart
  | listenOnly => rfl
  | _ => exact listening

end Fields

theorem Instr.readsStraps_of_mayRestart {c : Instr} (h : c.mayRestart = false) : c.readsStraps = false := by
  cases c with
  | powerOnReset => exact absurd h Bool.noConfusion
  | _ => rfl

/-- Settles O4: each move that writes one of these fields carries the label of the commands that may make it. -/
theorem whoChangesWhat : Obligations.WhoChangesWhat := by
  intro c s t h
  have field {α : Type} (f : Digest → α) (moves : ∀ {d e}, Move (mayDo c) d e → f e = f d) : f t.digest = f s.digest :=
    Moves.keeps (P := fun d => f d = f s.digest) (fun _ _ move same => (moves move).trans same) (exec_does h) rfl
  refine ⟨fun straps => ?_, fun restarts => ?_⟩
  · have power : ¬ mayDo c .straps := by simp [mayDo, straps]
    refine ⟨field Digest.addr fun m => (m.straps_kept power).1, field Digest.fast fun m => (m.straps_kept power).2.1,
      field Digest.straps fun m => (m.straps_kept power).2.2, fun cups => field (·.call.seated) ?_⟩
    exact Move.seated_kept power (by simp [mayDo, cups])
  · have power : ¬ mayDo c .straps := by simp [mayDo, Instr.readsStraps_of_mayRestart restarts]
    have restart : ¬ mayDo c .restart := by simp [mayDo, restarts]
    refine ⟨fun sets => ?_, fun sets routes => ?_, fun places => ?_, fun scans => ?_, fun sets stages => ?_, fun stages => ?_,
      fun steps => ?_, fun completes => ?_, fun listening => ?_⟩
    · exact field Digest.setup (Move.setup_kept power restart (by simp [mayDo, sets, restarts]))
    · exact field Digest.routing
        (Move.routing_kept power restart (by simp [mayDo, sets, restarts]) (by simp [mayDo, routes, restarts]))
    · exact field (·.call.params) (Move.params_kept power restart (by simp [mayDo, places, restarts]))
    · have keys : ¬ mayDo c .keys := by simp [mayDo, scans]
      exact ⟨field Digest.caps (Move.caps_kept power restart keys), field Digest.localMode (Move.localMode_kept power restart keys)⟩
    · exact field Digest.darkness
        (Move.darkness_kept power restart (by simp [mayDo, sets, restarts]) (by simp [mayDo, stages, restarts]))
    · exact field Digest.wide (Move.wide_kept power restart (by simp [mayDo, stages, restarts]))
    · exact field (·.engine.motorPhase) (Move.motorPhase_kept power restart (by simp [mayDo, steps, restarts]))
    · exact field (·.claim.completed) (Move.completed_kept power restart (by simp [mayDo, completes]))
    · exact Moves.keeps (P := fun d => d.listenOnly = true) (fun _ _ m => m.listenOnly_kept power restart) (exec_does h) listening

end Sys2Proof.Machine

/-! PROOFS. The Router's law with what it rests on (R29), which a step can break: the end of a setup window leaves the doze scan
running. -/

namespace Sys2Proof.Machine

/-- A part in DOZE with its doze scan, whose setup window is closed while the window's timer still runs. -/
def dozingInWindow : State :=
  let s := State.reset
  ((s.setMsg { s.msg with op := .doze, window := .closed, windowTimer := some 0 }).setKbd
    { s.kbd with dozeTimer := some 0 }).setPending [.setupWindowExpiry]

theorem dozingInWindow_ground : dozingInWindow.FlowGround where
  marks := by decide
  start := fun h => absurd rfl h
  scans := fun h => absurd rfl h

theorem dozingInWindow_flowLaw : dozingInWindow.FlowLaw := fun carrying => absurd carrying (by decide)

/-- The part comes to be in RUN with the doze scan's timer as it was. -/
theorem dozingInWindow_step :
    ∃ t, step dozingInWindow = .next t ∧ t.msg.op = .run ∧ t.kbd.dozeTimer = some 0 := ⟨_, rfl, by decide +kernel, by decide +kernel⟩

/-- Refutes O9: in DOZE nothing that the Router's law rests on excludes a setup window's timer that runs, and its end puts the
part in RUN with the doze scan still running. -/
theorem not_flowLawKept : ¬ Obligations.FlowLawKept := by
  intro kept
  obtain ⟨t, stepped, op, timer⟩ := dozingInWindow_step
  obtain ⟨ground, -⟩ := kept dozingInWindow t dozingInWindow_ground dozingInWindow_flowLaw stepped
  have := ground.scans (by simp [op])
  simp [timer] at this

end Sys2Proof.Machine

/-! PROOFS. The machine: the front command, and the passing of time with the outputs that show it (R34, R59 to R61, R74, R75). -/

namespace Sys2Proof.Machine

/-- Settles O1: by the definition of a step. -/
theorem stepTakesFront : Obligations.StepTakesFront := fun _ _ _ => rfl

/-! ## Time -/

theorem le_toneEvents_iff (t k : Nat) : k ≤ toneEvents t ↔ 125 * k / 4 ≤ t := by
  unfold toneEvents
  omega

theorem State.advanceTo_of_le (s : State) {t : Nat} (h : t ≤ s.now) : s.advanceTo t = s := if_pos h

theorem State.advanceTo_of_lt (s : State) {t : Nat} (h : s.now < t) :
    s.advanceTo t =
      ((s.setMod (s.mod.advance s.baudStep (t - s.now) (toneEvents t - toneEvents s.now) t)).setDemod
        { s.demod with sampler := s.demod.sampler.advance s.baudStep (t - s.now) (samplerRuns s.call.st) }).setNow t :=
  if_neg (Nat.not_le.2 h)

theorem samplerRuns_iff (st : CallState) : samplerRuns st = true ↔ st = .online ∨ st = .loop := by simp [samplerRuns]

theorem Modulator.advance_phase (m : Modulator) (inc dt n now : Nat) :
    (m.advance inc dt n now).phase
      = if m.st = .silent then m.phase else BitVec.ofNat 16 (m.phase.toNat + n * m.increment) := by
  by_cases silent : m.st = .silent
  · simp [Modulator.advance, Modulator.steps, silent]
  · simp [Modulator.advance, Modulator.steps, silent, BitVec.ofNat_add]

theorem Modulator.advance_bitSamples (m : Modulator) (inc dt n now : Nat) :
    (m.advance inc dt n now).bitSamples
      = if m.frame = none ∧ m.test = none then m.bitSamples else m.bitSamples + (m.baudAcc.toNat + dt * inc) / 2 ^ 24 := by
  cases frame : m.frame <;> cases test : m.test <;> simp [Modulator.advance, frame, test]

theorem LoopTest.stepOnce_eq (inc : Nat) (l : LoopTest) :
    l.stepOnce inc = { l with
      samples := l.samples + 1
      phase := BitVec.ofNat 16 (l.phase.toNat + inc)
      due := if (l.phase.toNat < 32768 ∧ 32768 ≤ l.phase.toNat + inc) ∨ (32768 ≤ l.phase.toNat ∧ 65536 ≤ l.phase.toNat + inc)
        then l.due ++ [l.started + 125 * (l.samples + 1) / 4] else l.due } := by
  by_cases low : l.phase.toNat < 32768
  · simp [LoopTest.stepOnce, toneEventTime, low, Nat.not_le.2 low]
  · simp [LoopTest.stepOnce, toneEventTime, low, Nat.not_lt.1 low]

/-! ## The outputs -/

theorem State.beepOut_error (s : State) (sounding : s.beeper.sound = .error) :
    s.beepOut = if s.beeper.started + 60000 ≤ s.now ∧ s.now < s.beeper.started + 120000 then none else some 500 := by
  simp only [State.beepOut, sounding]
  refine if_congr ?_ rfl rfl
  simp only [Bool.and_eq_true, decide_eq_true_eq]
  simp only [Config.errorToneTime]
  omega

/-- Settles O3: what the two accumulators, the events and the outputs are is said by each operation's own equation. -/
theorem timePasses : Obligations.TimePasses := by
  refine ⟨fun s idle => ?_, le_toneEvents_iff, fun s t => s.advanceTo_of_le, fun s t ahead => ?_, fun inc n l => ?_, fun s => ?_⟩
  · simp only [step, idle]
  · rw [s.advanceTo_of_lt ahead]
    refine ⟨rfl, s.mod.advance_phase .., rfl, s.mod.advance_bitSamples .., rfl, rfl, ?_, rfl⟩
    simp only [← samplerRuns_iff]
    rfl
  · exact ⟨rfl, by rw [LoopTest.steps, LoopTest.stepOnce_eq]⟩
  · refine ⟨?_, rfl, ?_, ?_, ?_, s.beepOut_error, ?_, ?_⟩
    · simp only [State.toneOut, Bool.or_eq_true, decide_eq_true_eq]
    iterate 3
      intro sounding
      simp only [State.beepOut, sounding]
    · intro idle
      simp only [State.plineLow, idle]
    · intro a attempt
      simp only [State.plineLow, attempt, decide_eq_true_eq]
      rfl

end Sys2Proof.Machine

/-! PROOFS. The Text Pool and the Router: cells and bodies stored and taken (R6, R7, R9, R14), the outbound flow state (R29, R30),
received items (R21), ROUTING (R19) and keyed characters (R23 to R25). -/

namespace Sys2Proof.Machine

/-! ## Cells and bodies in a chain -/

theorem tailRoom_eq_zero_iff (bs : List Block) :
    tailRoom bs = 0 ↔ ∀ b, bs.getLast? = some b → Config.blockCells ≤ b.cells.length := by
  rcases List.eq_nil_or_concat bs with rfl | ⟨front, b, rfl⟩
  · simp [tailRoom]
  · simp [tailRoom, Config.blockCells, Nat.sub_eq_zero_iff_le]

theorem Pool.store_none_of_noRoom {p : Pool} {c : Chain} (cell : Cell) (full : tailRoom (p.chain c) = 0)
    (noRoom : c.cap ≤ (p.chain c).length ∨ p.free = []) : p.store c cell = none := by
  rcases noRoom with atCap | noBlock
  · simp [Pool.store, Pool.putCell, full, Nat.not_lt.2 atCap]
  · simp [Pool.store, Pool.putCell, full, noBlock]

theorem Pool.take_none_of_empty {p : Pool} {c : Chain} (empty : p.chain c = []) : p.take c = none := by
  simp [Pool.take, empty]

/-- The chain that is left when the head block's next cell is taken. -/
def chainAfterTake (b : Block) (rest : List Block) : List Block :=
  if b.consumed + 1 = b.cells.length then rest else { b with consumed := b.consumed + 1 } :: rest

theorem chainCells_cons_of_next {b : Block} {cell : Cell} (rest : List Block) (next : b.cells[b.consumed]? = some cell) :
    chainCells (b :: rest) = cell :: chainCells (chainAfterTake b rest) := by
  obtain ⟨within, rfl⟩ := List.getElem?_eq_some_iff.1 next
  have head : chainCells (b :: rest) = b.cells[b.consumed] :: (b.cells.drop (b.consumed + 1) ++ chainCells rest) := by
    rw [chainCells, List.flatMap_cons, List.drop_eq_getElem_cons within]
    rfl
  rw [head, chainAfterTake]
  split
  · next last => rw [last, List.drop_length, List.nil_append]
  · rfl

/-- In a chain that is sound the head block has a cell to give. -/
theorem Pool.Law.exists_next {p : Pool} (law : p.Law) {c : Chain} {b : Block} {rest : List Block} (chain : p.chain c = b :: rest) :
    ∃ cell, b.cells[b.consumed]? = some cell := by
  have sound := law.soundChain c
  rw [chain, chainSound_cons_iff, Block.sound_iff] at sound
  exact ⟨_, List.getElem?_eq_getElem sound.1.1⟩

/-- Settles O6: the cases of a tail with room, a free block and neither, and of a head block with a cell to give. -/
theorem cellsStoredAndTaken : Obligations.CellsStoredAndTaken := by
  refine ⟨fun p c cell => ⟨fun b last room => ?_, fun id rest full below free => ?_, fun full noRoom => ?_⟩,
    fun p c law => ⟨fun empty => p.take_none_of_empty empty, fun b rest chain => ?_⟩,
    fun _ _ _ _ => ⟨rfl, rfl, rfl, rfl, rfl, rfl, rfl, rfl, rfl, rfl, rfl, rfl, rfl, rfl, rfl, rfl⟩, fun s c cell => ?_⟩
  · obtain ⟨front, chain⟩ := List.getLast?_eq_some_iff.1 last
    rw [p.store_of_tail cell chain room, chain, List.dropLast_concat]
    cases c <;> rfl
  · rw [p.store_of_freeBlock cell ((tailRoom_eq_zero_iff _).2 full) below free]
    cases c <;> rfl
  · exact p.store_none_of_noRoom cell ((tailRoom_eq_zero_iff _).2 full) noRoom
  · obtain ⟨cell, next⟩ := law.exists_next chain
    refine ⟨cell, next, chain ▸ chainCells_cons_of_next rest next, ?_⟩
    by_cases last : b.consumed + 1 = b.cells.length <;> simp [Pool.take, chain, next, last]
  · refine ⟨fun h => ?_, fun p h => ?_, fun h => ?_, fun p h => ?_⟩ <;> simp [State.storeCell, State.takeCell, h]

theorem blocksNeeded_eq (n room : Nat) : blocksNeeded n room = if n ≤ room then 0 else (n - room + 15) / 16 := rfl

/-- Settles O7: a body that fits is stored by `Pool.Law.storeBody`. -/
theorem bodyStoredWhole : Obligations.BodyStoredWhole := by
  intro p c body law room need
  have isRoom : tailRoom (p.chain c) = room := by
    unfold tailRoom
    split <;> simp_all [room]
  have isNeed : blocksNeeded body.length (tailRoom (p.chain c)) = need := by rw [blocksNeeded_eq, isRoom]
  refine ⟨isNeed, fun noRoom => ?_, fun cap free => ?_⟩
  · have unfit : p.bodyFits c body.length = false := by
      simp only [Pool.bodyFits, isNeed, Bool.and_eq_false_iff, decide_eq_false_iff_not]
      omega
    simp [Pool.storeBody, unfit]
  · obtain ⟨q, store, stored⟩ := law.storeBody c body (by rwa [isNeed]) (by rwa [isNeed])
    rw [isNeed] at stored
    refine ⟨q, store, stored.cells, stored.length, stored.free, ?_, ?_⟩
    · rw [stored.frame]
      cases c <;> rfl
    · have lost : q.lost c = (p.lost c && body.isEmpty) := by
        rw [stored.frame]
        cases c <;> rfl
      rw [lost, stored.free]
      exact stored.frame

/-! ## The outbound flow state -/

theorem State.evaluateFlow_of_carrying {s : State} (carrying : s.call.st.carrying = true) (enabled : s.msg.setup.flowEnable = true) :
    s.evaluateFlow = s.setRouter { s.router with
      flow := flowAfter s.router.flow s.router.inFlight s.pressure s.release } := by
  simp [State.evaluateFlow, carrying, enabled]

theorem State.evaluateFlow_idle {s : State} (h : s.call.st.carrying = false ∨ s.msg.setup.flowEnable = false) :
    s.evaluateFlow = s := by
  rcases h with h | h <;> simp [State.evaluateFlow, h]

theorem CallState.carrying_eq_false_iff (st : CallState) : st.carrying = false ↔ st ≠ .online ∧ st ≠ .fading := by
  simp [CallState.carrying]

theorem State.pressure_iff (s : State) :
    s.pressure = true ↔ s.pool.free.length ≤ s.msg.setup.lowMark
      ∨ (54 ≤ s.pool.prq.length ∧ s.router.routing.copy ≠ .controller)
      ∨ (22 ≤ s.pool.fwq.length ∧ s.router.routing.copy ≠ .print ∧ s.line.listenOnly = false) := by
  simp [State.pressure, State.copiesToPrinter, State.copiesToController, or_assoc]

theorem State.release_iff (s : State) :
    s.release = true ↔ s.msg.setup.highMark ≤ s.pool.free.length ∧ s.pool.prq.length ≤ 48 ∧ s.pool.fwq.length ≤ 16 := by
  simp [State.release, and_assoc]

theorem flowAfter_neither (f : FlowState) (i : Option FlowCode) : flowAfter f i false false = f := by
  cases f <;> cases i <;> rfl

/-- Settles O10: the table by its cells, and each of the others by its definition. -/
theorem flowTable : Obligations.FlowTable := by
  refine ⟨fun _ => ⟨rfl, rfl, rfl, rfl, fun _ => rfl, fun _ => rfl, rfl, rfl, rfl, rfl, rfl, rfl, flowAfter_neither, rfl, rfl,
      rfl⟩,
    fun s => ⟨fun inCall enabled => ?_, fun h => ?_⟩, fun s => ⟨s.pressure_iff, s.release_iff⟩,
    fun s p => ⟨fun changed => if_neg changed, fun same => if_pos same⟩, fun s => ⟨rfl, rfl⟩⟩
  · exact State.evaluateFlow_of_carrying ((CallState.carrying_iff _).2 inCall) enabled
  · exact State.evaluateFlow_idle (h.imp_left (CallState.carrying_eq_false_iff _).2)

/-! ## Received items -/

theorem State.offerReceived_stored {s : State} {c : Chain} {cell : Cell} {p : Pool} (h : s.pool.store c cell = some p) :
    s.offerReceived c cell = s.changePool p := by
  simp [State.offerReceived, State.storeCell, h]

theorem State.offerReceived_lost {s : State} {c : Chain} {cell : Cell} (h : s.pool.store c cell = none) :
    s.offerReceived c cell = s.setPool (s.pool.setLost c true) := by
  simp [State.offerReceived, State.storeCell, h, State.markLost]

/-- Settles O14: each destination by the outcome of storing, and the destinations by receive copy and the listen-only flag. -/
theorem receivedItemRouted : Obligations.ReceivedItemRouted := by
  refine fun s cell => ⟨fun c p => State.offerReceived_stored, fun c => State.offerReceived_lost, ?_⟩
  cases copy : s.router.routing.copy <;> cases silent : s.line.listenOnly <;>
    simp [State.routeReceived, State.copiesToPrinter, State.copiesToController, copy, silent]

/-! ## ROUTING -/

theorem duplexOf_of_le {d : Byte} (h : d.toNat ≤ 1) : duplexOf d.toNat = some (if d = 0 then .full else .half) := by
  have cases : d = 0 ∨ d = 1 := by bv_omega
  rcases cases with rfl | rfl <;> rfl

theorem targetOf_of_le {t : Byte} (h : t.toNat ≤ 2) :
    targetOf t.toNat = some (if t = 0 then .line else if t = 1 then .controller else .both) := by
  have cases : t = 0 ∨ t = 1 ∨ t = 2 := by bv_omega
  rcases cases with rfl | rfl | rfl <;> rfl

theorem copyOf_of_le {c : Byte} (h : c.toNat ≤ 2) :
    copyOf c.toNat = some (if c = 0 then .print else if c = 1 then .controller else .both) := by
  have cases : c = 0 ∨ c = 1 ∨ c = 2 := by bv_omega
  rcases cases with rfl | rfl | rfl <;> rfl

theorem echoOf_of_le {e : Byte} (h : e.toNat ≤ 1) : echoOf e.toNat = some (decide (e = 1)) := by
  have cases : e = 0 ∨ e = 1 := by bv_omega
  rcases cases with rfl | rfl <;> rfl

theorem duplexOf_eq_none {n : Nat} (h : 1 < n) : duplexOf n = none := by
  unfold duplexOf
  split
  case h_3 => rfl
  all_goals omega

theorem targetOf_eq_none {n : Nat} (h : 2 < n) : targetOf n = none := by
  unfold targetOf
  split
  case h_4 => rfl
  all_goals omega

theorem copyOf_eq_none {n : Nat} (h : 2 < n) : copyOf n = none := by
  unfold copyOf
  split
  case h_4 => rfl
  all_goals omega

theorem echoOf_eq_none {n : Nat} (h : 1 < n) : echoOf n = none := by
  unfold echoOf
  split
  case h_3 => rfl
  all_goals omega

theorem routingOf_eq_none {d t c e : Byte} (h : 1 < d.toNat ∨ 2 < t.toNat ∨ 2 < c.toNat ∨ 1 < e.toNat) :
    routingOf [d, t, c, e] = none := by
  unfold routingOf
  split
  · next eq =>
    cases eq
    split
    · next hd ht hc he =>
      rcases h with h | h | h | h
      · simp [duplexOf_eq_none h] at hd
      · simp [targetOf_eq_none h] at ht
      · simp [copyOf_eq_none h] at hc
      · simp [echoOf_eq_none h] at he
    · rfl
  · next other => exact absurd rfl (other d t c e)

/-- A request whose length suits its kind, by its own rule: the rule's state with the rule's answer. -/
theorem State.Takes.answered {s : State} {src : Addr} (h : s.Takes src) (m : Moment) (kind : Byte)
    (rule : State → State × Answer) :
    s.delivered m s.line.addr src (fun u => u.request src kind true rule)
      = State.reviewed s ((rule (s.heard m.t)).1.reply src kind (rule (s.heard m.t)).2) := by
  rw [h.delivered, h.request, if_pos rfl]

theorem State.Takes.routing {s : State} {src : Addr} (h : s.Takes src) (m : Moment) (d t c e : Byte) :
    exec (.routing m src [d, t, c, e]) s
      = .next (State.reviewed s (((s.heard m.t).routingRule [d, t, c, e]).1.reply src kindRouting
          ((s.heard m.t).routingRule [d, t, c, e]).2)) :=
  congrArg _ (h.answered m kindRouting fun u => u.routingRule [d, t, c, e])

/-- Settles O11: the four codes are read each from its own set. -/
theorem routingRequest : Obligations.RoutingRequest := by
  intro s m src d t c e takes u
  rw [takes.routing]
  refine ⟨fun hd ht hc he => ⟨_, rfl, ?_⟩, fun outside => ?_⟩
  · simp only [State.routingRule, routingOf, duplexOf_of_le hd, targetOf_of_le ht, copyOf_of_le hc, echoOf_of_le he, u]
  · simp only [State.routingRule, routingOf_eq_none outside, u]

/-! ## Keyed characters -/

theorem State.storeCell_router {s t : State} {c : Chain} {cell : Cell} (h : s.storeCell c cell = some t) :
    t.router.routing = s.router.routing := by
  obtain ⟨p, -, rfl⟩ := Option.map_eq_some_iff.1 h
  unfold State.changePool
  split
  · rfl
  · unfold State.evaluateFlow
    dsimp only
    split <;> rfl

theorem State.echoKey_full {s : State} (code : Byte) (full : s.router.routing.duplex = .full) : s.echoKey code = s := by
  simp [State.echoKey, full]

theorem State.echoKey_lost {s : State} {code : Byte} (half : s.router.routing.duplex = .half)
    (noRoom : s.storeCell .prq { code := code } = none) :
    s.echoKey code = s.setPool { s.pool with prqLost := true } := by
  simp only [State.echoKey, half, if_true, noRoom]
  rfl

theorem State.echoKey_stored {s t : State} {code : Byte} (half : s.router.routing.duplex = .half)
    (stored : s.storeCell .prq { code := code } = some t) : s.echoKey code = t := by
  simp only [State.echoKey, half, if_true, stored]

theorem State.keyedChar_toLine {s : State} (code : Byte) (notLocal : s.router.localMode = false)
    (target : s.router.routing.target ≠ .controller) : s.keyedChar code = s.keyToLine code := by
  cases h : s.router.routing.target <;> simp_all [State.keyedChar]

/-- Settles O19: local mode, the target, the call and the duplex in turn. -/
theorem keyedCharacter : Obligations.KeyedCharacter := by
  refine fun s code => ⟨fun localMode => ?_, fun notLocal target => ?_, fun notLocal target => ?_⟩
  · refine ⟨fun noRoom => ?_, fun v stored => ?_⟩ <;> simp [State.keyedChar, State.keyToPrinter, *]
  · simp [State.keyedChar, notLocal, target]
  · rw [State.keyedChar_toLine code notLocal target]
    refine ⟨fun notOnline notFading => ?_, fun inCall => ?_⟩
    · have offline := (CallState.carrying_eq_false_iff s.call.st).2 ⟨notOnline, notFading⟩
      simp [State.keyToLine, offline]
    · have carrying := (CallState.carrying_iff s.call.st).2 inCall
      refine ⟨fun noRoom => by simp [State.keyToLine, carrying, noRoom], fun v stored => ?_⟩
      have routing := State.storeCell_router stored
      have line : s.keyToLine code = (v.echoKey code).openImage.arrival := by simp [State.keyToLine, carrying, stored]
      rw [line]
      refine ⟨fun full => ?_, fun half => ⟨fun noRoom => ?_, fun w copied => ?_⟩⟩
      · rw [State.echoKey_full code (by rw [routing, full])]
      · rw [State.echoKey_lost (by rw [routing, half]) noRoom]
      · rw [State.echoKey_stored (by rw [routing, half]) copied]

end Sys2Proof.Machine

/-! PROOFS. The Keyboard Scanner (R37 to R56), the doze scan (R57, R98) and waking (R155, R170, R183, R194). -/

namespace Sys2Proof.Machine

/-- The step of a timer that runs. -/
theorem State.onTimer_running (s : State) {timer : Timer} {d : Nat} (runs : timer = some d) (f : State → State) :
    s.onTimer timer f = .next (State.reviewed s (f (s.advanceTo d))) := by
  subst runs
  rfl

/-! ## A press, a blocked position and a release -/

theorem Keyboard.ghost_iff (k : Keyboard) (pos : Nat) :
    k.ghost pos = true ↔ ∃ r c, r < 8 ∧ c < 9 ∧ r ≠ pos / 9 ∧ c ≠ pos % 9
      ∧ k.isDown (9 * (pos / 9) + c) = true ∧ k.isDown (9 * r + pos % 9) = true ∧ k.isDown (9 * r + c) = true := by
  simp only [Keyboard.ghost, List.any_eq_true, List.mem_range, Bool.and_eq_true, decide_eq_true_eq, and_assoc]
  constructor
  · rintro ⟨r, hr, c, hc, h⟩
    exact ⟨r, c, hr, hc, h⟩
  · rintro ⟨r, c, hr, hc, h⟩
    exact ⟨r, hr, c, hc, h⟩

theorem Key.repeatable_iff (k : Key) : k.repeatable = true ↔ k.isCharacter = true ∨ k = .paperFeed := by
  simp [Key.repeatable]

theorem State.keyDown_eq (s : State) (pos : Nat) (sense : Sense) :
    s.keyDown pos sense = (s.setKbd { s.kbd.setState pos .down with
      candidate := some pos
      repeatTimer := if (keyAt pos).isCharacter = true ∨ keyAt pos = .paperFeed
        then some (s.now + s.msg.setup.repeatDelay * 1000) else none }).keyEvent pos .down sense := by
  simp only [← Key.repeatable_iff]
  rfl

/-- Settles O17: the rectangle is the test of both, and a release by whether its position was DOWN. -/
theorem pressJudged : Obligations.PressJudged := by
  intro s pos sense _ corners goesDown up
  have ghost : s.kbd.ghost pos = true ↔ corners := s.kbd.ghost_iff pos
  have noGhost (free : ¬ corners) : s.kbd.ghost pos = false := by simpa using ghost.not.2 free
  refine ⟨fun h => ?_, fun h => ?_, fun h => ?_, fun h => ?_, fun down own => ?_, fun down other => ?_, fun notDown => ?_⟩
  · simp [State.judgePress, ghost.2 h]
  · simpa [State.judgePress, noGhost h] using s.keyDown_eq pos sense
  · simp [State.testBlocked, ghost.2 h]
  · simpa [State.testBlocked, noGhost h] using s.keyDown_eq pos sense
  · have own : up.candidate = some pos := own
    simp only [State.keyUp, down, if_true, Keyboard.dropCandidate, up, own]
  · have other : ¬ up.candidate = some pos := other
    simp only [State.keyUp, down, if_true, Keyboard.dropCandidate, up, other, if_false]
  · simp [State.keyUp, notDown, up]

/-! ## A scan -/

theorem KeyPos.debounce_st (k : KeyPos) (reading : Bool) : (k.debounce reading).st = k.st := by
  unfold KeyPos.debounce
  (repeat' split) <;> rfl

theorem KeyPos.debounce_agrees {k : KeyPos} {reading : Bool} (same : reading = k.level) :
    k.debounce reading = { k with count := 0 } := if_pos same

theorem KeyPos.debounce_third {k : KeyPos} {reading : Bool} (differs : reading ≠ k.level) (third : k.count = 2) :
    k.debounce reading = { k with level := reading, count := 0 } := by simp [KeyPos.debounce, differs, third]

theorem KeyPos.debounce_counts {k : KeyPos} {reading : Bool} (differs : reading ≠ k.level) (early : k.count ≠ 2) :
    k.debounce reading = { k with count := k.count + 1 } := by simp [KeyPos.debounce, differs, early]

theorem Keyboard.debounced_keys (k : Keyboard) (keys : Matrix) (p : Nat) :
    (k.debounced keys).keys[p]? = k.keys[p]?.map fun x => x.debounce (keys.getLsbD p) := by
  simp [Keyboard.debounced, List.getElem?_zipIdx]
  cases k.keys[p]? <;> rfl

theorem positionsWhere_sorted (before after : List KeyPos) (test : KeyPos → KeyPos → Bool) :
    (positionsWhere before after test).Pairwise (· < ·) :=
  List.Pairwise.filter _ List.pairwise_lt_range

theorem mem_positionsWhere {before after : List KeyPos} (size : before.length = 72) (test : KeyPos → KeyPos → Bool) (p : Nat) :
    p ∈ positionsWhere before after test ↔ ∃ k k', before[p]? = some k ∧ after[p]? = some k' ∧ test k k' = true := by
  unfold positionsWhere
  rw [List.mem_filter, List.mem_range]
  constructor
  · rintro ⟨-, h⟩
    split at h
    · next k k' hk hk' => exact ⟨k, k', hk, hk', h⟩
    · cases h
  · rintro ⟨k, k', hk, hk', h⟩
    have within : p < 72 := size ▸ (List.getElem?_eq_some_iff.1 hk).1
    exact ⟨within, by simp only [hk, hk', h]⟩

/-- Settles O16: a scan debounces each position and then works through the three lists of positions. -/
theorem scanDebounces : Obligations.ScanDebounces := by
  intro s keys sense d due size
  let u := s.advanceTo d
  have kbd : u.kbd = s.kbd := by simp [u]
  have keysOf : (u.kbd.debounced keys).keys = (s.kbd.debounced keys).keys := by rw [kbd]
  let w := u.setKbd { u.kbd with scanTimer := some (u.now + Config.scanPeriod) }
  let v := (w.setKbd (w.kbd.debounced keys)).setPins { u.pins with keys := keys }
  have after : v.kbd.keys = (s.kbd.debounced keys).keys := keysOf
  have length : v.kbd.keys.length = 72 := by simp [after, Keyboard.debounced, size]
  refine ⟨v, _, positionsWhere s.kbd.keys v.kbd.keys (fun a b => a.level && !b.level),
    positionsWhere s.kbd.keys v.kbd.keys (fun a b => decide (a.st = .blocked) && b.level),
    positionsWhere s.kbd.keys v.kbd.keys (fun a b => !a.level && b.level), rfl, length, fun p k here => ?_,
    positionsWhere_sorted .., positionsWhere_sorted .., positionsWhere_sorted .., fun p => ?_, fun p => ?_, fun p => ?_, rfl, ?_⟩
  · refine ⟨k.debounce (keys.getLsbD p), ?_, k.debounce_st _, fun same => ?_, fun differs third => ?_, fun differs early => ?_⟩
    · rw [after, Keyboard.debounced_keys, here]
      rfl
    · rw [KeyPos.debounce_agrees same]
      exact ⟨rfl, rfl⟩
    · rw [KeyPos.debounce_third differs third]
      exact ⟨rfl, rfl⟩
    · rw [KeyPos.debounce_counts differs early]
      exact ⟨rfl, rfl⟩
  · rw [mem_positionsWhere size]
    simp
  · rw [mem_positionsWhere size]
    simp
  · rw [mem_positionsWhere size]
    simp
  · have scanned := s.onTimer_running due fun s =>
      (s.setKbd { s.kbd with scanTimer := some (s.now + Config.scanPeriod) }).scan keys sense
    rw [show exec (.keyboardScan keys sense) s = _ from scanned, State.scan, ← kbd]
    rfl

/-! ## A key event -/

theorem ctrlCode_eq (code : Byte) :
    ctrlCode code = if 0x40 ≤ code.toNat ∧ code.toNat ≤ 0x5F then some (code - 0x40)
      else if 0x61 ≤ code.toNat ∧ code.toNat ≤ 0x7A then some (code - 0x60) else none := by
  simp [ctrlCode]

theorem State.recordsKey_iff (s : State) (pos : Nat) :
    s.recordsKey pos = true ↔ s.line.listenOnly = false ∧
      (s.msg.op = .start ∨ s.router.routing.target ≠ .line
        ∨ keyAt pos = .breakKey ∨ keyAt pos = .localKey ∨ keyAt pos = .paperFeed) := by
  have special : (keyAt pos).isSpecial = true ↔ keyAt pos = .breakKey ∨ keyAt pos = .localKey ∨ keyAt pos = .paperFeed := by
    cases keyAt pos <;> simp [Key.isSpecial]
  simp [State.recordsKey, special, or_assoc]

theorem State.recordsKey_congr {s t : State} (line : t.line = s.line) (msg : t.msg = s.msg) (router : t.router = s.router)
    (pos : Nat) : t.recordsKey pos = s.recordsKey pos := by
  simp [State.recordsKey, line, msg, router]

theorem Keyboard.applyModifier_eq (k : Keyboard) (pos : Nat) (event : KeyEvent) :
    k.applyModifier pos event = { k with caps := if keyAt pos = .capsLock ∧ event = .down then !k.caps else k.caps } := by
  unfold Keyboard.applyModifier
  split <;> rfl

/-- The click of a DOWN event (R49). -/
def State.keyClick (s : State) (event : KeyEvent) : State :=
  if event = .down ∧ s.msg.setup.click = true then s.askSound .click else s

/-- The record of an event offered to the key FIFO where R50 lets it in (R49). -/
def State.keyRecorded (s : State) (pos : Nat) (r : KeyRecord) : State :=
  if s.recordsKey pos then s.offerRecord r else s

/-- The character of an event, in RUN alone (R49, R56). -/
def State.keyTyped (s : State) (code : Option Byte) : State :=
  match code with
  | some c => if s.msg.op = .run then s.keyedChar c else s
  | none => s

/-- An event before the action of a special key (R49). -/
def State.keyHandled (s : State) (pos : Nat) (event : KeyEvent) : State :=
  let s1 := s.setKbd (s.kbd.applyModifier pos event)
  let r := s1.kbd.record pos event
  ((s1.keyClick event).keyRecorded pos r).keyTyped r.code

theorem State.keyEvent_eq (s : State) (pos : Nat) (event : KeyEvent) (sense : Sense) :
    s.keyEvent pos event sense = (s.keyHandled pos event).specialKey pos event sense := rfl

theorem State.keyClick_frame (s : State) (event : KeyEvent) :
    (s.keyClick event).line = s.line ∧ (s.keyClick event).msg = s.msg ∧ (s.keyClick event).router = s.router := by
  unfold State.keyClick
  split <;> simp

theorem State.specialKey_break (s : State) {pos : Nat} (sense : Sense) (key : keyAt pos = .breakKey) :
    s.specialKey pos .down sense = s.breakKey := by simp [State.specialKey, key]

theorem State.specialKey_local (s : State) {pos : Nat} (sense : Sense) (key : keyAt pos = .localKey) :
    s.specialKey pos .down sense = s.setRouter { s.router with localMode := !s.router.localMode } := by
  simp [State.specialKey, key]

theorem State.specialKey_feed (s : State) {pos : Nat} {event : KeyEvent} (sense : Sense) (key : keyAt pos = .paperFeed)
    (pressed : event ≠ .up) : s.specialKey pos event sense = s.paperFeed sense := by
  cases event with
  | up => exact absurd rfl pressed
  | _ => simp [State.specialKey, key]

theorem State.specialKey_other (s : State) {pos : Nat} {event : KeyEvent} (sense : Sense)
    (h : (keyAt pos).isSpecial = false ∨ event = .up ∨ (event = .again ∧ keyAt pos ≠ .paperFeed)) :
    s.specialKey pos event sense = s := by
  unfold State.specialKey
  split <;> simp_all [Key.isSpecial]

theorem State.breakKey_free {s : State} (online : s.call.st = .online) (free : s.call.breakInProgress = false) :
    s.breakKey = s.takeBreak := by simp [State.breakKey, State.breakRule, online, free]

theorem State.breakKey_refused {s : State} (h : ¬ (s.call.st = .online ∧ s.call.breakInProgress = false)) :
    s.breakKey = s.askSound .error := by
  by_cases online : s.call.st = .online
  · have busy : s.call.breakInProgress = true := by simpa [online] using h
    simp [State.breakKey, State.breakRule, online, busy]
  · simp [State.breakKey, State.breakRule, online]

/-- PAPER FEED may be taken (R55). -/
def State.feedFree (s : State) : Prop :=
  s.eng.st = .idle ∧ ∀ id, s.asm.openId = some id → (s.asm.image id).isEmpty = true

theorem State.paperFeed_free {s : State} (sense : Sense) (free : s.feedFree) (notHeld : s.eng.holds.any = false)
    (between : s.eng.inProgress = none) :
    s.paperFeed sense = ((s.setEng { s.eng with run := some { image := none, line := 0, dot := 0 } }).setAsm
      { s.asm with committed := s.asm.committed + 1 }).workTest sense := by
  obtain ⟨idle, isEmpty⟩ := free
  have work (t : State) (held : t.eng.holds.any = false) (mid : t.eng.inProgress = none) : t.workAppears sense = t.workTest sense := by
    simp [State.workAppears, held, mid]
  unfold State.paperFeed
  cases image : s.asm.openId with
  | none =>
    simp only [idle, decide_true, Bool.and_true, if_true]
    exact work _ notHeld between
  | some id =>
    simp only [idle, isEmpty id image, decide_true, Bool.and_true, if_true]
    exact work _ notHeld between

theorem State.paperFeed_refused {s : State} (sense : Sense) (h : ¬ s.feedFree) : s.paperFeed sense = s.askSound .error := by
  unfold State.paperFeed
  cases image : s.asm.openId with
  | none =>
    have busy : s.eng.st ≠ .idle := fun idle => h ⟨idle, by simp [image]⟩
    simp [busy]
  | some id =>
    by_cases idle : s.eng.st = .idle
    · have used : (s.asm.image id).isEmpty ≠ true := fun isEmpty => h ⟨idle, by simp [image, isEmpty]⟩
      simp [idle, used]
    · simp [idle]

theorem Key.translate_eq_none {k : Key} (h : k.isCharacter = false) (shift ctrl caps : Bool) :
    k.translate shift ctrl caps = none := by
  unfold Key.translate
  cases k <;> simp_all [Key.isCharacter]

/-- Settles O18: the stages of a key event, the FIFO's offer, the translation by the kind of key, and the repeat. -/
theorem keyEvents : Obligations.KeyEvents := by
  refine ⟨fun s pos event sense => ?_,
    ⟨fun s pos => s.recordsKey_iff pos, fun s r => ⟨fun room => ?_, fun full lost => ?_, fun full kept => ?_⟩⟩,
    fun shift ctrl caps => ?_, fun s sense d pos due candidate => ?_⟩
  · intro caps shift ctrl code record s1 s2 s3 s4 breakFree feedFree fed
    have handled : s.keyHandled pos event = s4 := by
      have first : s.setKbd (s.kbd.applyModifier pos event) = s1 := by rw [Keyboard.applyModifier_eq]
      obtain ⟨line, msg, router⟩ := s1.keyClick_frame event
      have third : (s1.keyClick event).keyRecorded pos record = s3 := by
        have offered : (s1.keyClick event).recordsKey pos = s.recordsKey pos := State.recordsKey_congr line msg router pos
        simp only [State.keyRecorded, offered]
        rfl
      have inRun : s3.msg = s.msg := by
        rw [← third]
        unfold State.keyRecorded
        split <;> simp [msg, s1]
      unfold State.keyHandled
      dsimp only
      rw [first, show s1.kbd.record pos event = record from rfl, third]
      show s3.keyTyped code = s4
      unfold State.keyTyped
      rw [inRun] <;> rfl
    have eq : s.keyEvent pos event sense = s4.specialKey pos event sense := by rw [State.keyEvent_eq, handled]
    refine ⟨fun key down free => ?_, fun key down busy => ?_, fun key down => ?_, fun key pressed free notHeld between => ?_,
      fun key pressed busy => ?_, fun other => eq.trans (s4.specialKey_other sense other)⟩
    · subst down
      rw [eq, s4.specialKey_break sense key, State.breakKey_free free.1 free.2]
    · subst down
      rw [eq, s4.specialKey_break sense key, State.breakKey_refused busy]
    · subst down
      rw [eq, s4.specialKey_local sense key]
    · rw [eq, s4.specialKey_feed sense key pressed, State.paperFeed_free sense free notHeld between]
    · rw [eq, s4.specialKey_feed sense key pressed, State.paperFeed_refused sense busy]
  · simp [State.offerRecord, Config.keyFifoSize, room]
  · simp [State.offerRecord, Config.keyFifoSize, Nat.not_lt.2 full, lost]
  · simp [State.offerRecord, Config.keyFifoSize, Nat.not_lt.2 full, kept]
  · intro under
    have codes (code : Byte) : (if ctrl then ctrlCode code else some code) = under code := by
      cases ctrl
      · rfl
      · exact ctrlCode_eq code
    refine ⟨fun code => ?_, fun plain shifted => codes _, fun _ => rfl, fun k notCharacter => Key.translate_eq_none notCharacter ..⟩
    rw [← codes]
    simp only [Key.translate, Bool.or_eq_true]
  · have repeated := s.onTimer_running due fun s => s.repeatNow sense
    have here : (s.advanceTo d).kbd.candidate = some pos := by simp [candidate]
    rw [show exec (.repeatTimerExpiry sense) s = _ from repeated]
    simp only [State.repeatNow, here]
    simp [repeatInterval, divRound]

/-! ## The doze scan -/

theorem State.dozeCups_same {s : State} {a b : Bool} (same : s.call.seated = (a && b)) : s.dozeCups a b = (s, false) := by
  cases seated : s.call.seated <;> simp [State.dozeCups, seated, ← same]

theorem State.dozeCups_closed {s : State} {a b : Bool} (unseated : s.call.seated = false) (closed : (a && b) = true) :
    s.dozeCups a b = (s.setCall { s.call with filter := 1 }, true) := by
  simp [State.dozeCups, unseated, closed]

theorem State.dozeCups_opened {s : State} {a b : Bool} (seated : s.call.seated = true) (opened : (a && b) = false) :
    s.dozeCups a b = ((s.setCall { s.call with
      seated := false, filter := 0, st := if s.call.st = .ready then .idle else s.call.st }).askNotice
        (.handset false s.call.muted), false) := by
  simp [State.dozeCups, seated, opened, State.askHandset]

/-- Settles O21: the three readings of the cups, each with and without a pressed key. -/
theorem dozeScanRule : Obligations.DozeScanRule := by
  intro s keys a b sense d due v u w
  have call : u.call = s.call := by simp [u, v]
  have scanned : exec (.dozeScan keys a b sense) s = .next (State.reviewed s (v.dozeScan keys a b sense)) :=
    s.onTimer_running due fun s => s.dozeScan keys a b sense
  have eq : v.dozeScan keys a b sense
      = if (u.dozeCups a b).2 || decide (keys ≠ 0) then (u.dozeCups a b).1.wake sense else (u.dozeCups a b).1 := rfl
  have lifted (seated : s.call.seated = true) (opened : (a && b) = false) : u.dozeCups a b = (w, false) := by
    rw [State.dozeCups_opened (call ▸ seated) opened, show u.call.muted = s.call.muted by rw [call]]
  rw [scanned, eq]
  refine ⟨fun same quiet => ?_, fun same pressed => ?_, fun unseated closed => ?_, fun seated opened quiet => ?_,
    fun seated opened pressed => ?_⟩
  · simp [State.dozeCups_same (call ▸ same), quiet]
  · rw [State.dozeCups_same (call ▸ same), decide_eq_true pressed, if_pos (Bool.or_true _)]
  · simp [State.dozeCups_closed (call ▸ unseated) closed]
  · simp [lifted seated opened, quiet]
  · rw [lifted seated opened, decide_eq_true pressed, if_pos (Bool.or_true _)]

/-! ## Waking -/

theorem State.gathersWoken_msg (s : State) :
    s.gathersWoken.msg = { s.msg with
      keysTimer := if s.line.listenOnly then s.msg.keysTimer
        else if s.kbd.inMessage < s.kbd.fifo.length then some (s.now + 10000) else none
      textTimer := if s.line.listenOnly then s.msg.textTimer
        else if s.pool.fwqInMessage < (chainCells s.pool.fwq).length then some (s.now + 20000) else none } := by
  have keys : 0 < s.keysUnsent ↔ s.kbd.inMessage < s.kbd.fifo.length := Nat.sub_pos_iff_lt
  have text : 0 < s.pool.unsentText ↔ s.pool.fwqInMessage < (chainCells s.pool.fwq).length := Nat.sub_pos_iff_lt
  unfold State.gathersWoken
  by_cases silent : s.line.listenOnly = true
  · simp [silent]
  · simp only [silent, keys, text]
    rfl

/-- The engine's state and its watch timer are all that taking a state touches. -/
@[simp] theorem State.setEngineState_engine (s : State) (st : EngineState) :
    (s.setEngineState st).eng.st = st ∧ (s.setEngineState st).eng.holds = s.eng.holds
      ∧ (s.setEngineState st).eng.holdAsked = s.eng.holdAsked ∧ (s.setEngineState st).eng.budgetAsked = s.eng.budgetAsked
      ∧ (s.setEngineState st).eng.cause = s.eng.cause ∧ (s.setEngineState st).eng.holdCount = s.eng.holdCount
      ∧ (s.setEngineState st).eng.step = s.eng.step ∧ (s.setEngineState st).eng.stoppedLine = s.eng.stoppedLine
      ∧ (s.setEngineState st).eng.rawWaiting = s.eng.rawWaiting ∧ (s.setEngineState st).eng.run = s.eng.run
      ∧ (s.setEngineState st).eng.inProgress = s.eng.inProgress ∧ (s.setEngineState st).eng.previous = s.eng.previous
      ∧ (s.setEngineState st).eng.beforePrevious = s.eng.beforePrevious
      ∧ (s.setEngineState st).eng.lastShift = s.eng.lastShift ∧ (s.setEngineState st).eng.motorPhase = s.eng.motorPhase
      ∧ (s.setEngineState st).eng.vc = s.eng.vc ∧ (s.setEngineState st).eng.tc = s.eng.tc
      ∧ (s.setEngineState st).eng.dotCurrent = s.eng.dotCurrent ∧ (s.setEngineState st).eng.lastHeat = s.eng.lastHeat
      ∧ (s.setEngineState st).eng.lastBursts = s.eng.lastBursts := by
  unfold State.setEngineState
  split
  · next same => simp [same]
  · simp

theorem State.applyHolds_readings (s : State) (h : HoldSet) :
    (s.applyHolds h).eng.vc = s.eng.vc ∧ (s.applyHolds h).eng.tc = s.eng.tc := by
  unfold State.applyHolds State.keepHeld State.enterHeld
  (repeat' split) <;> simp

/-- A sample leaves its readings. -/
theorem State.sampleNow_readings (s : State) (sense : Sense) :
    (s.sampleNow sense).eng.vc = sense.vc ∧ (s.sampleNow sense).eng.tc = sense.tc
      ∧ (s.sampleNow sense).pins.paper = sense.paper ∧ (s.sampleNow sense).pins.door = sense.door := by
  obtain ⟨vc, tc⟩ := (s.readSense sense).applyHolds_readings ((s.readSense sense).liveHolds sense)
  unfold State.sampleNow
  dsimp only
  split
  · rw [vc, tc]
    simp [State.readSense]
  · simp [State.readSense]

theorem State.gathersWoken_eq (s : State) : s.gathersWoken = s.setMsg s.gathersWoken.msg := by
  unfold State.gathersWoken
  split <;> rfl

theorem headDest_eq_iff (head : Byte) (a : Addr) : headDest head = a ↔ head.toNat / 16 = a.toNat := by
  have := head.isLt
  rw [← BitVec.toNat_inj, headDest, BitVec.toNat_ofNat]
  omega

/-- The state that waking leaves before the sample is taken (R57, R98, R155, R170, R194). -/
def State.beforeWakeSample (s : State) : State :=
  (((((s.setMsg { s.msg with op := .run }).setKbd
    { s.kbd with scanTimer := some (s.now + Config.scanPeriod), dozeTimer := none }).setCall
    { s.call with cupTimer := some (s.now + Config.cupPeriod) }).setBud (s.bud.woken s.now)).setEng
    { s.eng with watchTimer := some (s.now + Config.watchPeriod) }).gathersWoken

theorem State.wake_eq (s : State) (sense : Sense) : s.wake sense = s.beforeWakeSample.sampleNow sense := rfl

/-- Settles O22: the blocks set at the wake, the gathers, and the sample, which touches the engine alone of them. -/
theorem wakeRule : Obligations.WakeRule := by
  refine ⟨fun s sense => ?_, fun s wave sense head free => ?_⟩
  · obtain ⟨vc, tc, paper, door⟩ := s.beforeWakeSample.sampleNow_readings sense
    have msg : (s.wake sense).msg = s.beforeWakeSample.msg := by simp [State.wake_eq]
    have gathers := State.gathersWoken_msg _ ▸ msg
    refine ⟨by rw [gathers]; rfl, ?_, ?_, ?_, ?_, vc, tc, paper, door, gathers, ?_⟩
    · simp [State.wake, Config.scanPeriod]
    · simp [State.wake, Config.cupPeriod]
    · simp only [State.wake, State.sampleNow_frame, State.gathersWoken_frame]
      rw [State.gathersWoken_eq]
      rfl
    · simp [State.wake, Budget.woken, Config.wakeBarrier, Config.budgetTickPeriod]
    · simp
  · intro h u events
    have heard : s.heardEvent wave = some (.marker head) := by
      simp only [State.heardEvent, free, show (s.hear wave).events = _ from events]
      exact if_pos rfl
    have after : s.afterWave wave = u := rfl
    have addr : u.line.addr = s.line.addr := by
      have same : h.line = s.line.withReceiver h.line := Line.hear_same _ _ _
      show h.line.addr = s.line.addr
      rw [same]
      rfl
    refine ⟨fun own => ?_, fun other => ?_⟩
    · have here := (headDest_eq_iff head s.line.addr).2 own
      show execMarkerCharacterInDoze wave sense s = _
      simp [execMarkerCharacterInDoze, heard, here, after, State.made]
    · have away := (headDest_eq_iff head s.line.addr).not.2 other
      show execMarkerCharacterInDoze wave sense s = _
      simp [execMarkerCharacterInDoze, heard, away, after, State.made]

end Sys2Proof.Machine

/-! PROOFS. The Coupler Demodulator: half-periods (R64), carrier windows (R65, R83 to R85), the receive sampler (R66 to R69) and
what its samples bring to light. -/

namespace Sys2Proof.Machine

/-! ## Half-periods -/

/-- A half-period of mark in the band heard (R64). -/
def isMark (high : Bool) (us : Nat) : Prop := if high then 200 ≤ us ∧ us ≤ 236 else 360 ≤ us ∧ us ≤ 430

/-- A half-period of space in the band heard (R64). -/
def isSpace (high : Bool) (us : Nat) : Prop := if high then 237 ≤ us ∧ us ≤ 280 else 431 ≤ us ∧ us ≤ 520

theorem halfPeriodClass_mark {high : Bool} {us : Nat} (h : isMark high us) : halfPeriodClass high us = some true := by
  cases high <;> simp [isMark] at h <;> simp [halfPeriodClass] <;> omega

theorem halfPeriodClass_space {high : Bool} {us : Nat} (h : isSpace high us) : halfPeriodClass high us = some false := by
  cases high <;> simp [isSpace] at h <;> simp [halfPeriodClass] <;> omega

theorem halfPeriodClass_invalid {high : Bool} {us : Nat} (mark : ¬ isMark high us) (space : ¬ isSpace high us) :
    halfPeriodClass high us = none := by
  cases high <;> simp [isMark, isSpace] at mark space <;> simp [halfPeriodClass] <;> omega

/-- The sampler takes a start edge. -/
def Sampler.edgeTaken (a : Sampler) : Sampler :=
  { a with st := .assemble, baudAcc := 0, due := 0, sample := 0, bit := 0, confirmed := false, trio := [], bits := [],
           noise := false }

/-- A change from mark to space with the sampler in HUNT (R66). -/
def State.startEdge (s : State) : Prop :=
  s.demod.output = true ∧ samplerRuns s.call.st = true ∧ s.demod.sampler.st = .hunt

section Crossing

variable {s : State} (t : Nat)

theorem State.crossing_first (first : s.demod.lastCrossing = none) :
    s.crossing t = s.setDemod { s.demod with lastCrossing := some t } := by simp [State.crossing, first]

variable {t} {last : Nat} (after : s.demod.lastCrossing = some last)
include after

theorem State.crossing_mark (mark : isMark s.hearsHigh (t - last)) :
    s.crossing t = s.setDemod { s.demod with
      lastCrossing := some t, output := true, windowCount := s.demod.windowCount + 1 } := by
  simp [State.crossing, after, halfPeriodClass_mark mark]

theorem State.crossing_space (space : isSpace s.hearsHigh (t - last)) (noEdge : ¬ s.startEdge) :
    s.crossing t = s.setDemod { s.demod with
      lastCrossing := some t, output := false, windowCount := s.demod.windowCount + 1 } := by
  have closed : (s.demod.output && !false && samplerRuns s.call.st && decide (s.demod.sampler.st = .hunt)) = false := by
    rw [Bool.eq_false_iff]
    intro h
    simp only [Bool.and_eq_true, decide_eq_true_eq] at h
    exact noEdge ⟨h.1.1.1, h.1.2, h.2⟩
  simp only [State.crossing, after, halfPeriodClass_space space, closed]
  rfl

theorem State.crossing_edge (space : isSpace s.hearsHigh (t - last)) (edge : s.startEdge) :
    s.crossing t = s.setDemod { s.demod with
      lastCrossing := some t, output := false, windowCount := s.demod.windowCount + 1,
      sampler := s.demod.sampler.edgeTaken } := by
  obtain ⟨output, runs, hunt⟩ := edge
  simp [State.crossing, after, halfPeriodClass_space space, output, runs, hunt, Sampler.edgeTaken]

theorem State.crossing_invalid (mark : ¬ isMark s.hearsHigh (t - last)) (space : ¬ isSpace s.hearsHigh (t - last)) :
    s.crossing t = s.setDemod { s.demod with lastCrossing := some t } := by
  simp [State.crossing, after, halfPeriodClass_invalid mark space]

end Crossing

theorem State.hearsHigh_iff (s : State) :
    s.hearsHigh = true ↔ s.call.st ≠ .loop ∧ ∃ p, s.call.params = some p ∧ p.mode = .originate := by
  cases params : s.call.params <;> simp [State.hearsHigh, params]

theorem State.hearsHigh_congr {s t : State} (call : t.call = s.call) : t.hearsHigh = s.hearsHigh := by
  simp [State.hearsHigh, call]

/-- Settles O23: a change of level is a crossing while the demodulator listens outside LOOP. -/
theorem micEdgeRule : Obligations.MicEdgeRule := by
  intro s t v u
  have call : u.call = s.call := by simp [u, v]
  have output : u.demod.output = s.demod.output := s.advanceTo_output t
  have sampler : u.demod.sampler.st = s.demod.sampler.st := s.advanceTo_sampler_st t
  have crossing : u.demod.lastCrossing = s.demod.lastCrossing := s.advanceTo_lastCrossing t
  have high : u.hearsHigh = s.hearsHigh := State.hearsHigh_congr call
  have exec_eq : exec (.micEdge t) s
      = if s.call.st.listens && decide (s.call.st ≠ .loop) then .next (u.crossing u.now) else .next u := rfl
  refine ⟨s.hearsHigh_iff, fun deaf => ?_, fun listening => ?_⟩
  · rw [exec_eq]
    rcases deaf with st | st | st | st <;> simp [st, CallState.listens]
  · intro timed
    have heard : exec (.micEdge t) s = .next (u.crossing u.now) := by
      rw [exec_eq]
      rcases listening with st | st | st | st <;> simp [st, CallState.listens]
    have edge_iff : u.startEdge ↔ s.demod.output = true ∧ s.call.st = .online ∧ s.demod.sampler.st = .hunt := by
      have runs : samplerRuns s.call.st = true ↔ s.call.st = .online := by
        rcases listening with st | st | st | st <;> simp [st, samplerRuns]
      rw [State.startEdge, output, sampler, call, runs]
    rw [heard]
    refine ⟨fun first => ?_, fun last after => ?_⟩
    · rw [State.crossing_first _ (crossing.trans first)]
    · intro us mark space
      have after := crossing.trans after
      have isMark_eq : isMark u.hearsHigh (u.now - last) = mark := by rw [high]; rfl
      have isSpace_eq : isSpace u.hearsHigh (u.now - last) = space := by rw [high]; rfl
      refine ⟨fun h => ?_, fun h noEdge => ?_, fun h output online hunt => ?_, fun notMark notSpace => ?_⟩
      · rw [State.crossing_mark after (isMark_eq ▸ h)]
      · rw [State.crossing_space after (isSpace_eq ▸ h) (edge_iff.not.2 noEdge)]
      · rw [State.crossing_edge after (isSpace_eq ▸ h) (edge_iff.2 ⟨output, online, hunt⟩)]
        rfl
      · rw [State.crossing_invalid after (isMark_eq ▸ notMark) (isSpace_eq ▸ notSpace)]

/-! ## Carrier windows -/

theorem windowPresent_eq (high : Bool) (count : Nat) :
    windowPresent high count = if high then decide (28 ≤ count) else decide (15 ≤ count) := by
  cases high <;> rfl

theorem State.verdict_waiting {v : State} (present : Bool) (waiting : v.call.st = .origWait ∨ v.call.st = .ansTone) :
    v.verdict present = if v.demod.presentRun = 15 then v.enterOnline else v := by
  rcases waiting with st | st <;> simp only [State.verdict, st] <;> rfl

theorem State.enterOnline_originate {v : State} {p : CallParams} (params : v.call.params = some p) (st : v.call.st = .origWait) :
    v.enterOnline = (((v.setCall { v.call with st := .online, carrierWait := none, fade := none }).startCarrier.samplerStart
      |>.evaluateFlow).askNotice (.carrierUp p)).arrival := by
  simp [State.enterOnline, params, st]

theorem State.enterOnline_answer {v : State} {p : CallParams} (params : v.call.params = some p) (st : v.call.st = .ansTone) :
    v.enterOnline = (((v.setCall { v.call with st := .online, carrierWait := none, fade := none }).samplerStart
      |>.evaluateFlow).askNotice (.carrierUp p)).arrival := by
  simp [State.enterOnline, params, st]

theorem Sampler.assembling_iff (a : Sampler) :
    a.assembling = true ↔ (a.st = .assemble ∧ a.confirmed = true) ∨ a.st = .framingHeld := by
  simp [Sampler.assembling]

/-- The pool once a character in assembly is discarded: the loss is marked in each destination of receive copy (R13, R70). -/
theorem State.reportDiscard_eq (v : State) :
    v.reportDiscard = v.setPool { v.pool with
      prqLost := v.pool.prqLost || decide (v.router.routing.copy ≠ .controller)
      fwqLost := v.pool.fwqLost || decide (v.router.routing.copy ≠ .print ∧ v.line.listenOnly = false) } := by
  cases copy : v.router.routing.copy <;> cases silent : v.line.listenOnly <;>
    simp [State.reportDiscard, State.copiesToPrinter, State.copiesToController, State.markLost, Pool.setLost, copy, silent] <;> rfl

theorem State.enterFading_eq (v : State) :
    v.enterFading = (((if v.demod.sampler.assembling then v.reportDiscard else v).setDemod { v.demod with
      sampler := { Sampler.reset with baudAcc := v.demod.sampler.baudAcc } }).setCall { v.call with st := .fading }) := by
  unfold State.enterFading
  split
  · rw [State.reportDiscard_eq]
    rfl
  · rfl

theorem State.startCarrier_eq {v : State} {p : CallParams} (params : v.call.params = some p) :
    v.startCarrier = v.setMod { v.mod with
      st := .carrier, phase := 0, increment := if p.mode = .originate then 2601 else 4557, frame := none } := by
  cases mode : p.mode <;> simp [State.startCarrier, State.mode, params, mode, markIncrement]

/-- Settles O24: the window's verdict by the call state. -/
theorem windowEndRule : Obligations.WindowEndRule := by
  refine ⟨fun s d due => ?_, fun v present => ?_, fun v => ⟨rfl, fun p => State.startCarrier_eq⟩⟩
  · intro u seen
    have ended := s.onTimer_running due State.windowEnd
    have high : u.hearsHigh = s.hearsHigh := State.hearsHigh_congr (by simp [u])
    have count : u.demod.windowCount = s.demod.windowCount := s.advanceTo_windowCount d
    have same : windowPresent u.hearsHigh u.demod.windowCount = seen := by rw [windowPresent_eq, high, count]
    show s.onTimer s.demod.windowTimer State.windowEnd = _
    rw [ended]
    simp only [State.windowEnd, same, show (s.advanceTo d) = u from rfl]
    rfl
  · refine ⟨fun waiting short => ?_, fun p params full => ⟨fun st => ?_, fun st => ?_⟩, fun st seen => ?_, fun st gone first => ?_,
      fun st gone third => ?_, fun st gone notFirst notThird => ?_, fun st seen third => ?_, fun st h => ?_⟩
    · rw [State.verdict_waiting present waiting, if_neg short]
    · rw [State.verdict_waiting present (.inl st), if_pos full, State.enterOnline_originate params st]
    · rw [State.verdict_waiting present (.inr st), if_pos full, State.enterOnline_answer params st]
    · simp [State.verdict, st, seen]
    · simp [State.verdict, st, gone, first]
    · intro a assembling printer controller
      have fading : v.verdict present = v.enterFading := by simp [State.verdict, st, gone, third]
      have held : a.assembling = true ↔ assembling := a.assembling_iff
      refine ⟨(if a.assembling then v.reportDiscard else v).pool, fun h => ?_, fun h => ?_, ?_⟩
      · rw [if_pos (held.2 h), State.reportDiscard_eq]
        rfl
      · rw [if_neg (held.not.2 h)]
      · rw [fading, State.enterFading_eq]
        show _ = ((v.setPool (if a.assembling then v.reportDiscard else v).pool).setDemod _).setCall _
        cases a.assembling
        · rfl
        · rw [if_pos rfl, State.reportDiscard_eq]
          rfl
    · simp [State.verdict, st, gone, notFirst, notThird]
    · simp [State.verdict, st, seen, third, State.carrierReturn]
    · rcases h with gone | other
      · simp [State.verdict, st, gone]
      · simp [State.verdict, st, other]

/-! ## The sampler -/

section Read

variable (a : Sampler) (f : Format)

/-- The sampler with nothing gathered. -/
def Sampler.cleared (st : SamplerState) (count : Nat) : Sampler :=
  { a with st := st, breakCount := count, sample := 0, bit := 0, confirmed := false, trio := [], bits := [], noise := false }

/-- The count of space samples after a sample, outside BREAK-SUPPRESS. -/
def Sampler.counted (z : Bool) : Sampler := { a with breakCount := if z then 0 else a.breakCount + 1 }

/-- The sample does not make a break. -/
def Sampler.below (z : Bool) : Prop := z = true ∨ a.breakCount + 1 < f.breakThreshold

variable {a f}

theorem Sampler.read_break (listening : a.st ≠ .breakSuppress) (reached : f.breakThreshold ≤ a.breakCount + 1) :
    a.read f false = (a.cleared .breakSuppress (a.breakCount + 1), .lineBreak) := by
  simp [Sampler.read, listening, reached, Sampler.toSuppress, Sampler.cleared]

theorem Sampler.read_suppressed (h : a.st = .breakSuppress) : a.read f false = (a, .nothing) := by
  simp only [Sampler.read, h]
  simp [← h]

/-- In ASSEMBLE below the threshold a sample is counted and then assembled. -/
theorem Sampler.read_assemble (assembling : a.st = .assemble) {z : Bool} (below : a.below f z) :
    a.read f z = (a.counted z).assembleSample f z := by
  have noBreak : ¬ (z = false ∧ f.breakThreshold ≤ a.breakCount + 1) := by
    rintro ⟨rfl, reached⟩
    rcases below with h | h
    · cases h
    · omega
  cases z with
  | true => simp [Sampler.read, assembling, Sampler.counted]
  | false =>
    have notReached : ¬ f.breakThreshold ≤ a.breakCount + 1 := fun h => noBreak ⟨rfl, h⟩
    simp [Sampler.read, assembling, Sampler.counted, notReached]

theorem Sampler.read_mark_hunt (h : a.st = .waitMark ∨ a.st = .breakSuppress) :
    a.read f true = (a.cleared .hunt 0, .nothing) := by
  rcases h with h | h <;> simp [Sampler.read, h, Sampler.toHunt, Sampler.cleared]

theorem Sampler.read_held (h : a.st = .framingHeld) :
    a.read f true = (a.cleared .hunt 0, .char (a.gathered f true)) := by
  simp [Sampler.read, h, Sampler.toHunt, Sampler.cleared, Sampler.gathered]

theorem Sampler.read_space (h : a.st = .waitMark ∨ a.st = .hunt ∨ a.st = .framingHeld)
    (below : a.breakCount + 1 < f.breakThreshold) :
    a.read f false = ({ a with breakCount := a.breakCount + 1 }, .nothing) := by
  have notReached := Nat.not_le.2 below
  rcases h with h | h | h <;> simp [Sampler.read, h, notReached]

theorem Sampler.assembleSample_ninth (z : Bool) (h : a.sample = 8) :
    a.assembleSample f z = ({ a with sample := 9 }).takeBit f z := by simp [Sampler.assembleSample, h]

theorem Sampler.assembleSample_kept (z : Bool) (h : a.sample = 6 ∨ a.sample = 7) :
    a.assembleSample f z = ({ a with sample := a.sample + 1, trio := a.trio ++ [z] }, .nothing) := by
  rcases h with h | h <;> simp [Sampler.assembleSample, h]

theorem Sampler.assembleSample_other (z : Bool) (h : a.sample < 6 ∨ (8 < a.sample ∧ a.sample < 15)) :
    a.assembleSample f z = ({ a with sample := a.sample + 1 }, .nothing) := by
  have next : ¬ 16 ≤ a.sample + 1 := by omega
  have notKept : ¬ (a.sample + 1 = 7 ∨ a.sample + 1 = 8) := by omega
  have notNinth : ¬ a.sample + 1 = 9 := by omega
  simp only [Sampler.assembleSample, next, notNinth, if_false, Bool.or_eq_true, decide_eq_true_eq, notKept]

theorem Sampler.assembleSample_last (z : Bool) (h : 15 ≤ a.sample) :
    a.assembleSample f z = ({ a with sample := 0, bit := a.bit + 1 }, .nothing) := by
  have last : 16 ≤ a.sample + 1 := by omega
  have notKept : ¬ (a.sample + 1 = 7 ∨ a.sample + 1 = 8) := by omega
  have notNinth : ¬ a.sample + 1 = 9 := by omega
  simp only [Sampler.assembleSample, last, notNinth, if_true, if_false, Bool.or_eq_true, decide_eq_true_eq, notKept]

end Read

/-! ## The character gathered -/

theorem codeOfBits_testBit (bits : List Bool) (i : Nat) : (codeOfBits bits).testBit i = (bits[i]?).getD false := by
  induction bits generalizing i with
  | nil => simp [codeOfBits]
  | cons b rest ih =>
    cases i with
    | zero => cases b <;> simp [codeOfBits, Nat.testBit_zero]
    | succ i =>
      have half : (b.toNat + 2 * codeOfBits rest) / 2 = codeOfBits rest := by
        have := b.toNat_le
        have : b.toNat < 2 := b.toNat_lt
        omega
      simp [codeOfBits, Nat.testBit_succ, half, ih]

theorem Sampler.gathered_bit (a : Sampler) (f : Format) (framing : Bool) {i : Nat} (within : i < 8) :
    (a.gathered f framing).code.getLsbD i = (decide (i < f.data.bits) && (a.bits[i]?).getD false) := by
  simp only [Sampler.gathered, BitVec.getLsbD_ofNat, within, decide_true, Bool.true_and, codeOfBits_testBit,
    List.getElem?_take]
  split <;> simp [*]

theorem DataFormat.bits_eq (d : DataFormat) : d.bits = if d = .eight then 8 else 7 := by cases d <;> rfl

theorem DataFormat.hasParity_iff (d : DataFormat) : d.hasParity = true ↔ d ≠ .seven ∧ d ≠ .eight := by cases d <;> decide

theorem StopBits.number_eq (n : StopBits) : n.number = if n = .one then 1 else 2 := by cases n <;> rfl

/-- A format with a parity bit has seven data bits and gives every code a parity bit; one without gives none. -/
theorem DataFormat.parityBit_cases (d : DataFormat) (code : Byte) :
    (d.hasParity = true ∧ d.bits = 7 ∧ ∃ p, d.parityBit code = some p) ∨ (d.hasParity = false ∧ d.parityBit code = none) := by
  cases d <;> simp [DataFormat.hasParity, DataFormat.bits, DataFormat.isSeven, DataFormat.parityBit]

theorem frameBits_parity {f : Format} {code : Byte} {p : Bool} (seven : f.data.bits = 7) (bit : f.data.parityBit code = some p) :
    (frameBits f code)[8]? = some p := by
  simp [frameBits, seven, bit]

theorem Sampler.gathered_parity (a : Sampler) (f : Format) (framing : Bool) :
    (a.gathered f framing).parity = true ↔
      f.data.hasParity = true ∧ a.bits[7]? ≠ (frameBits f (a.gathered f framing).code)[8]? := by
  rcases f.data.parityBit_cases (a.gathered f framing).code with ⟨has, seven, p, bit⟩ | ⟨none, bit⟩
  · have parity : (a.gathered f framing).parity = (a.bits[7]? != some p) := by
      simp only [Sampler.gathered] at bit ⊢
      rw [bit, seven]
    rw [parity, frameBits_parity seven bit]
    simp [has]
  · have parity : (a.gathered f framing).parity = false := by
      simp only [Sampler.gathered] at bit ⊢
      rw [bit]
    simp [parity, none]

theorem Format.breakThreshold_eq (f : Format) : f.breakThreshold = 32 * f.frameLength := rfl

/-- The ninth sample of a bit, with the two kept before it. -/
theorem Sampler.takeBit_trio {a : Sampler} (f : Format) {x y : Bool} (z : Bool) (trio : a.trio = [x, y]) :
    let mark := (x && y) || (x && z) || (y && z)
    let noisy := a.noise || !(x == y && y == z)
    a.takeBit f z
      = if a.bit = 0 then
          if mark then (a.toHunt, .nothing) else ({ a with confirmed := true, noise := noisy, trio := [] }, .nothing)
        else if a.bit ≤ f.data.bits + f.data.hasParity.toNat then
          ({ a with bits := a.bits ++ [mark], noise := noisy, trio := [] }, .nothing)
        else if mark then (({ a with noise := noisy }).toHunt, .char (({ a with noise := noisy }).gathered f false))
        else ({ a with noise := noisy, st := .framingHeld, trio := [] }, .nothing) := by
  simp only [Sampler.takeBit, trio]
  rfl

/-- Settles O25: the break threshold first, then each state's own move. -/
theorem samplerRule : Obligations.SamplerRule := by
  refine ⟨fun a f => ?_, fun a f framing => ?_⟩
  · refine ⟨Sampler.read_break, Sampler.read_suppressed, Sampler.read_mark_hunt, fun h => by simp [Sampler.read, h],
      Sampler.read_held, Sampler.read_space, fun assembling x y z trio eighth below => ?_, fun assembling z below => ?_⟩
    · intro mark b noisy
      have read : a.read f z = ({ a.counted z with sample := 9 }).takeBit f z := by
        rw [Sampler.read_assemble assembling below]
        exact Sampler.assembleSample_ninth (a := a.counted z) z eighth
      rw [read, Sampler.takeBit_trio (a := { a.counted z with sample := 9 }) f z trio]
      refine ⟨fun start isMark => ?_, fun start isSpace => ?_, fun data within => ?_, fun stop isMark => ?_,
        fun stop isSpace => ?_⟩
      · exact (if_pos start).trans (if_pos isMark)
      · exact (if_pos start).trans (if_neg (Bool.eq_false_iff.1 isSpace))
      · exact (if_neg data).trans (if_pos within)
      · exact (if_neg (Nat.ne_zero_of_lt stop)).trans ((if_neg (Nat.not_le.2 stop)).trans (if_pos isMark))
      · exact (if_neg (Nat.ne_zero_of_lt stop)).trans
          ((if_neg (Nat.not_le.2 stop)).trans (if_neg (Bool.eq_false_iff.1 isSpace)))
    · intro b
      rw [Sampler.read_assemble assembling below]
      exact ⟨(a.counted z).assembleSample_kept z, (a.counted z).assembleSample_other z, (a.counted z).assembleSample_last z⟩
  · exact ⟨fun i => a.gathered_bit f framing, a.gathered_parity f framing, rfl, rfl, rfl, rfl, f.data.bits_eq,
      f.data.hasParity_iff, by rw [Format.frameLength, StopBits.number_eq], f.breakThreshold_eq⟩

end Sys2Proof.Machine

/-! PROOFS. The coupler's sample events (R61, R66, R67, R69, R77, R22), the modulator's boundaries and frames (R72, R62) and breaks
(R73, R91). -/

namespace Sys2Proof.Machine

/-! ## The moment of an overflow -/

theorem divUp_le_iff {n step : Nat} (pos : 0 < step) (k : Nat) : divUp n step ≤ k ↔ n ≤ k * step := by
  rw [divUp, ← Nat.lt_succ_iff, Nat.div_lt_iff_lt_mul pos, Nat.succ_mul]
  omega

/-- That many sample events have fallen by `dt` µs exactly from the µs that rounding up gives (R61). -/
theorem events_reached_iff {n base acc step : Nat} (pos : 0 < step) (dt : Nat) :
    n ≤ base + (acc + dt * step) / 2 ^ 24 ↔ divUp ((n - base) * 2 ^ 24 - acc) step ≤ dt := by
  rw [divUp_le_iff pos, ← Nat.sub_le_iff_le_add', Nat.le_div_iff_mul_le (by decide)]
  omega

theorem baudIncrement_pos (r : Rate) : 0 < baudIncrement r := by cases r <;> decide

theorem divUp_zero (step : Nat) : divUp 0 step = 0 := by
  rcases Nat.eq_zero_or_pos step with rfl | pos
  · rfl
  · exact Nat.div_eq_of_lt (by omega)

/-- The format in force: that of the call, or in LOOP that of the test (R66, R75). -/
def State.FormatInForce (s : State) (f : Format) : Prop :=
  (s.call.st = .loop ∧ f = { rate := .b300, data := .eight, stop := .one })
    ∨ (s.call.st ≠ .loop ∧ ∃ p, s.call.params = some p ∧ f = p.fmt)

theorem State.FormatInForce.baudStep {s : State} {f : Format} (h : s.FormatInForce f) : s.baudStep = baudIncrement f.rate := by
  rcases h with ⟨st, rfl⟩ | ⟨st, p, params, rfl⟩
  · simp [State.baudStep, st]
  · simp [State.baudStep, st, params]

theorem State.FormatInForce.sampleFormat {s : State} {f : Format} (h : s.FormatInForce f) : s.sampleFormat = f := by
  rcases h with ⟨st, rfl⟩ | ⟨st, p, params, rfl⟩
  · simp [State.sampleFormat, st, testFormat]
  · simp [State.sampleFormat, st, params]

theorem State.sampleTime_eq (s : State) :
    s.sampleTime = s.now + divUp ((1 - s.demod.sampler.due) * 2 ^ 24 - s.demod.sampler.baudAcc.toNat) s.baudStep := by
  unfold State.sampleTime
  rcases Nat.eq_zero_or_pos s.demod.sampler.due with none | some
  · simp [none]
  · have : 1 - s.demod.sampler.due = 0 := by omega
    rw [if_pos some, this, Nat.zero_mul, Nat.zero_sub, divUp_zero]

theorem State.bitEnd_eq (s : State) :
    s.bitEnd = s.now + divUp ((16 - s.mod.bitSamples) * 2 ^ 24 - s.mod.baudAcc.toNat) s.baudStep := by
  unfold State.bitEnd
  split
  · next full => rw [Nat.sub_eq_zero_of_le full, Nat.zero_mul, Nat.zero_sub, divUp_zero]
  · rfl

/-! ## What a sample brings to light -/

theorem State.sampleOnce_call {s u : State} {r : SampleResult} (h : s.sampleOnce = (u, r)) : u.call = s.call := by
  have := s.sampleOnce_frame
  simp_all

theorem execReceiveSampleEvent_char {s u : State} {cell : Cell} (runs : samplerRuns s.call.st = true)
    (h : s.sampleOnce = (u, .char cell)) :
    exec .receiveSampleEvent s = .next (State.reviewed s (u.charRecovered cell)) := by
  show execReceiveSampleEvent s = _
  simp [execReceiveSampleEvent, runs, h, State.made]

theorem execReceiveSampleEvent_break {s u : State} (runs : samplerRuns s.call.st = true)
    (h : s.sampleOnce = (u, .lineBreak)) :
    exec .receiveSampleEvent s = .next (State.reviewed s u.breakRecovered) := by
  show execReceiveSampleEvent s = _
  simp [execReceiveSampleEvent, runs, h, State.made]

theorem State.receiveItem_break (s : State) : s.receiveItem { code := 0, lineBreak := true }
    = s.routeReceived { code := 0, lineBreak := true } := by
  simp [State.receiveItem, State.flowCodeOf]

theorem State.charRecovered_call {u : State} (notLoop : u.call.st ≠ .loop) (cell : Cell) :
    u.charRecovered cell = u.receiveItem cell := if_neg notLoop

theorem State.breakRecovered_call {u : State} (notLoop : u.call.st ≠ .loop) :
    u.breakRecovered = (u.routeReceived { code := 0, lineBreak := true }).askNotice (.breakReceived 1) := by
  rw [← State.receiveItem_break]
  exact if_neg notLoop

/-- A comparison counts the place, and a mismatch where the item is not its test character (R77). -/
theorem LoopTest.compare_eq {l : LoopTest} (item : Option (Byte × Bool)) (more : l.recovered < 32) :
    ∃ m, l.compare item = { l with recovered := l.recovered + 1, mismatched := m }
      ∧ (item = some (testChar l.recovered, false) → m = l.mismatched)
      ∧ (item ≠ some (testChar l.recovered, false) → m = l.mismatched + 1) := by
  have here : ¬ 32 ≤ l.recovered := Nat.not_le.2 more
  cases item with
  | none => exact ⟨l.mismatched + 1, by simp [LoopTest.compare, here], nofun, fun _ => rfl⟩
  | some x =>
    obtain ⟨code, framing⟩ := x
    by_cases same : code = testChar l.recovered ∧ framing = false
    · obtain ⟨rfl, rfl⟩ := same
      exact ⟨l.mismatched, by simp [LoopTest.compare, here], fun _ => rfl, fun h => absurd rfl h⟩
    · refine ⟨l.mismatched + 1, ?_, fun h => absurd (by simpa using h) same, fun _ => rfl⟩
      simp only [LoopTest.compare, here, if_false]
      rw [if_neg (by simpa using same)]

/-! ## Flow codes received -/

theorem State.sevenBits_iff (s : State) : s.sevenBits = true ↔ ∃ p, s.call.params = some p ∧ p.fmt.data ≠ .eight := by
  cases params : s.call.params with
  | none => simp [State.sevenBits, params]
  | some p => cases data : p.fmt.data <;> simp [State.sevenBits, params, data, DataFormat.isSeven]

/-- A received item is tested against the flow codes (R22). -/
def State.codeTested (s : State) (cell : Cell) : Prop :=
  s.msg.setup.flowEnable = true ∧ cell.parity = false ∧ cell.framing = false ∧ cell.lineBreak = false

theorem State.flowCodeOf_tested {s : State} {cell : Cell} (tested : s.codeTested cell) :
    s.flowCodeOf cell = if cell.code = s.flowByte s.msg.setup.stopCode then some .stop
      else if cell.code = s.flowByte s.msg.setup.goCode then some .go else none := by
  obtain ⟨enabled, parity, framing, lineBreak⟩ := tested
  simp [State.flowCodeOf, enabled, parity, framing, lineBreak]

theorem State.flowCodeOf_untested {s : State} {cell : Cell} (untested : ¬ s.codeTested cell) : s.flowCodeOf cell = none := by
  refine if_neg fun h => untested ?_
  simp only [Bool.and_eq_true, Bool.not_eq_true'] at h
  obtain ⟨⟨⟨enabled, parity⟩, framing⟩, lineBreak⟩ := h
  exact ⟨enabled, parity, framing, lineBreak⟩

theorem State.code_eq_flowByte_iff (s : State) (code received : Byte) :
    received = s.flowByte code ↔ (s.sevenBits = true ∧ received = code &&& 0x7F) ∨ (¬ s.sevenBits = true ∧ received = code) := by
  cases seven : s.sevenBits <;> simp [State.flowByte, seven]

theorem State.receiveItem_code {s : State} {cell : Cell} {c : FlowCode} (h : s.flowCodeOf cell = some c) :
    s.receiveItem cell = s.flowReceived c := by simp [State.receiveItem, h]

theorem State.receiveItem_routed {s : State} {cell : Cell} (h : s.flowCodeOf cell = none) :
    s.receiveItem cell = s.routeReceived cell := by simp [State.receiveItem, h]

theorem testChar_eq (n : Nat) : testChar n = if n = 0 then 0x55 else if n = 1 then 0xAA else BitVec.ofNat 8 (n - 2) := rfl

/-- Settles O26: the sample that is read, by the result that it brings, and the match with the flow codes. -/
theorem sampleEvents : Obligations.SampleEvents := by
  refine ⟨fun s u => ?_, fun s cell => ?_, fun s f t format => ?_, fun n _ => testChar_eq n⟩
  · refine ⟨fun running h => ?_, fun online cell h => ?_, fun online h => ?_, fun loop l r test h something more => ?_⟩
    · have runs := (samplerRuns_iff s.call.st).2 running
      show execReceiveSampleEvent s = _
      simp [execReceiveSampleEvent, runs, h]
    · have runs := (samplerRuns_iff s.call.st).2 (.inl online)
      have notLoop : u.call.st ≠ .loop := by simp [State.sampleOnce_call h, online]
      refine ⟨?_, ?_⟩
      · rw [execReceiveSampleEvent_char runs h, State.charRecovered_call notLoop]
      · show execReceivedCharacter s = _
        simp [execReceivedCharacter, runs, h, State.made, State.charRecovered_call notLoop]
    · have runs := (samplerRuns_iff s.call.st).2 (.inl online)
      have notLoop : u.call.st ≠ .loop := by simp [State.sampleOnce_call h, online]
      refine ⟨?_, ?_⟩
      · rw [execReceiveSampleEvent_break runs h, State.breakRecovered_call notLoop]
      · show execReceivedBreak s = _
        simp [execReceivedBreak, runs, h, State.made, State.breakRecovered_call notLoop]
    · intro matched
      have runs := (samplerRuns_iff s.call.st).2 (.inr loop)
      have inLoop : u.call.st = .loop := by rw [State.sampleOnce_call h, loop]
      cases r with
      | nothing => exact absurd rfl something
      | char c =>
        obtain ⟨m, eq, same, differs⟩ := LoopTest.compare_eq (some (c.code, c.framing)) more
        refine ⟨m, ?_, fun ok => same ?_, fun bad => differs fun e => bad ?_⟩
        · rw [execReceiveSampleEvent_char runs h, State.charRecovered, if_pos inLoop, test, Option.map_some, eq]
        · have ok : c.code = testChar l.recovered ∧ c.framing = false := ok
          rw [ok.1, ok.2]
        · simpa using e
      | lineBreak =>
        obtain ⟨m, eq, -, differs⟩ := LoopTest.compare_eq none more
        refine ⟨m, ?_, fun ok => ok.elim, fun _ => differs nofun⟩
        rw [execReceiveSampleEvent_break runs h, State.breakRecovered, if_pos inLoop, test, Option.map_some, eq]
  · intro seven tested isCode
    have seven_iff : s.sevenBits = true ↔ seven := s.sevenBits_iff
    have code (b : Byte) : cell.code = s.flowByte b ↔ isCode b := by rw [s.code_eq_flowByte_iff, seven_iff]
    refine ⟨fun test stop => ?_, fun test notStop go => ?_, fun h => State.receiveItem_routed ?_⟩
    · have found : s.flowCodeOf cell = some .stop := by rw [State.flowCodeOf_tested test, if_pos ((code _).2 stop)]
      rw [State.receiveItem_code found]
      rfl
    · have found : s.flowCodeOf cell = some .go := by
        rw [State.flowCodeOf_tested test, if_neg ((code _).not.2 notStop), if_pos ((code _).2 go)]
      rw [State.receiveItem_code found]
      rfl
    · by_cases test : s.codeTested cell
      · obtain ⟨notStop, notGo⟩ := h.resolve_left fun no => no test
        rw [State.flowCodeOf_tested test, if_neg ((code _).not.2 notStop), if_neg ((code _).not.2 notGo)]
      · exact State.flowCodeOf_untested test
  · intro step events ahead reached before v r
    have inForce : s.FormatInForce f := format
    have step_eq : s.baudStep = step := inForce.baudStep
    have pos : 0 < step := by rw [← step_eq, inForce.baudStep]; exact baudIncrement_pos _
    have due (x : Nat) : 1 ≤ events x ↔ s.sampleTime ≤ s.now + (x - s.now) := by
      rw [s.sampleTime_eq, step_eq, Nat.add_le_add_iff_left]
      exact events_reached_iff pos _
    have time : s.sampleTime = t := by
      have reach := (due t).1 reached
      have later : s.now ≤ s.sampleTime := by rw [s.sampleTime_eq]; exact Nat.le_add_right _ _
      by_contra other
      have early : s.sampleTime < t := by omega
      have := (due s.sampleTime).2 (by omega)
      have := before s.sampleTime later early
      omega
    have sampleFormat : v.sampleFormat = f := by
      have : v.FormatInForce f := by simpa [State.FormatInForce, v] using inForce
      exact this.sampleFormat
    simp only [State.sampleOnce, time, sampleFormat, r, show s.advanceTo t = v from rfl]

end Sys2Proof.Machine

/-! PROOFS. The Coupler Modulator: what begins at a character boundary (R31, R72), frames bit by bit (R58, R61, R62) and breaks
(R73, R91). -/

namespace Sys2Proof.Machine

/-! ## Character boundaries -/

/-- The modulator may begin to send something (R72). -/
def State.sendFree (s : State) : Prop := s.call.st = .online ∧ s.call.muted = false ∧ s.call.breakInProgress = false

theorem State.sendFree_iff (s : State) :
    s.sendFree ↔ (decide (s.call.st = .online) && !s.call.muted && !s.call.breakInProgress) = true := by
  simp [State.sendFree, and_assoc]

section Choice

variable {s : State} {p : CallParams} (params : s.call.params = some p) (fromCarrier : Bool)
include params

theorem State.chooseNext_busy (busy : ¬ s.sendFree) : s.chooseNext fromCarrier = s.toCarrier := by
  simp only [State.chooseNext, params]
  exact if_neg (s.sendFree_iff.not.1 busy)

theorem State.chooseNext_stopped (none : s.router.pendingCode = none) (stopped : s.router.remoteStopped = true) :
    s.chooseNext fromCarrier = s.toCarrier := by
  simp only [State.chooseNext, params, none, stopped, if_true, ite_self]

theorem State.chooseNext_empty (none : s.router.pendingCode = none) (running : s.router.remoteStopped = false)
    (empty : s.takeCell .txq = .none) : s.chooseNext fromCarrier = s.toCarrier := by
  simp only [State.chooseNext, params, none, running, empty, Bool.false_eq_true, ite_self]

variable (free : s.sendFree)
include free

theorem State.chooseNext_code {c : FlowCode} (pending : s.router.pendingCode = some c) :
    s.chooseNext fromCarrier = (s.setRouter { s.router with inFlight := some c }).beginFrame p.fmt
      (s.msg.setup.flowByte c) (.flow c) fromCarrier := by
  simp only [State.chooseNext, params, pending]
  exact if_pos (s.sendFree_iff.1 free)

theorem State.chooseNext_cell (none : s.router.pendingCode = none) (running : s.router.remoteStopped = false) {cell : Cell}
    {v : State} (taken : s.takeCell .txq = some (cell, v)) :
    s.chooseNext fromCarrier = v.beginFrame p.fmt cell.code .cell fromCarrier := by
  simp only [State.chooseNext, params, none, running, taken, Bool.false_eq_true, if_false]
  exact if_pos (s.sendFree_iff.1 free)

end Choice

theorem State.arrival_carrier {s : State} (carrier : s.mod.st = .carrier) : s.arrival = s.chooseNext true := if_pos carrier

theorem State.arrival_other {s : State} (other : s.mod.st ≠ .carrier) : s.arrival = s := if_neg other

theorem State.mode_eq {s : State} {p : CallParams} (params : s.call.params = some p) : s.mode = p.mode := by
  simp [State.mode, params]

theorem markIncrement_eq (m : Mode) : markIncrement m = if m = .originate then 2601 else 4557 := by cases m <;> rfl

theorem spaceIncrement_eq (m : Mode) : spaceIncrement m = if m = .originate then 2191 else 4147 := by cases m <;> rfl

/-- Settles O27: the order of a boundary, and each thing begun. -/
theorem boundaryChoice : Obligations.BoundaryChoice := by
  refine ⟨fun s p fromCarrier params => ?_, fun v p params => ?_, fun v => ⟨State.arrival_carrier, State.arrival_other⟩,
    fun r => ?_⟩
  · intro free
    refine ⟨fun busy => State.chooseNext_busy params _ busy, fun isFree c pending => ?_,
      fun _ none stopped => State.chooseNext_stopped params _ none stopped,
      fun isFree none notStopped => ⟨fun empty => State.chooseNext_empty params _ none notStopped empty,
        fun cell v taken => State.chooseNext_cell params _ isFree none notStopped taken⟩⟩
    rw [State.chooseNext_code params _ isFree pending]
    cases c <;> rfl
  · intro mark space
    have markIs : markIncrement v.mode = mark := by rw [State.mode_eq params, markIncrement_eq]
    have spaceIs : spaceIncrement v.mode = space := by rw [State.mode_eq params, spaceIncrement_eq]
    refine ⟨fun fmt code kind fromCarrier => ?_, markIs, spaceIs, ?_, ?_⟩
    · rw [State.beginFrame, spaceIs]
    · rw [State.toCarrier, markIs]
    · rw [State.startBreak, spaceIs]
      rfl
  · refine ⟨fun flow other => ?_, fun flow here => ?_, fun flow none => ?_, fun flow some => ?_, fun flow => ?_⟩
    · cases sent : r.inFlight with
      | none => simp [Router.pendingCode, flow, sent]
      | some c =>
        cases c with
        | stop => exact absurd sent other
        | go => simp [Router.pendingCode, flow, sent]
    · simp [Router.pendingCode, flow, here]
    · simp [Router.pendingCode, flow, none]
    · cases sent : r.inFlight with
      | none => exact absurd sent some
      | some c => simp [Router.pendingCode, flow, sent]
    · rcases flow with flow | flow <;> simp [Router.pendingCode, flow]

/-! ## The bits of a frame -/

theorem DataFormat.parityBit_length (d : DataFormat) (code : Byte) :
    (d.parityBit code).toList.length = d.hasParity.toNat := by cases d <;> rfl

theorem frameBits_eq (f : Format) (code : Byte) :
    frameBits f code = false :: ((List.range f.data.bits).map (fun i => code.getLsbD i)
      ++ ((f.data.parityBit code).toList ++ List.replicate f.stop.number true)) := by
  cases parity : f.data.parityBit code <;> simp [frameBits, parity]

theorem frameBits_length (f : Format) (code : Byte) : (frameBits f code).length = f.frameLength := by
  simp [frameBits_eq, DataFormat.parityBit_length, Format.frameLength]
  omega

theorem frameBits_data (f : Format) (code : Byte) {i : Nat} (within : i < f.data.bits) :
    (frameBits f code)[1 + i]? = some (code.getLsbD i) := by
  rw [frameBits_eq, Nat.add_comm, List.getElem?_cons_succ, List.getElem?_append_left (by simpa using within)]
  simp [within]

theorem frameBits_stop (f : Format) (code : Byte) {i : Nat} (low : 1 + f.data.bits + f.data.hasParity.toNat ≤ i)
    (high : i < f.frameLength) : (frameBits f code)[i]? = some true := by
  obtain ⟨k, rfl⟩ := Nat.exists_eq_add_of_le low
  have within : k < f.stop.number := by
    unfold Format.frameLength at high
    omega
  have index : 1 + f.data.bits + f.data.hasParity.toNat + k = (f.data.bits + (f.data.hasParity.toNat + k)) + 1 := by omega
  rw [frameBits_eq, index, List.getElem?_cons_succ, List.getElem?_append_right (by simp),
    List.getElem?_append_right (by simp [DataFormat.parityBit_length])]
  simp [DataFormat.parityBit_length, within]

/-- In a format of seven data bits with parity the bit behind them is the parity bit. -/
theorem frameBits_eighth {f : Format} {code : Byte} {p q : Bool} (here : (frameBits f code)[8]? = some p)
    (seven : f.data.bits = 7) (bit : f.data.parityBit code = some q) : p = q :=
  Option.some.inj (here.symm.trans (frameBits_parity seven bit))

theorem even_with_parity (n : Nat) : (n + (decide (n % 2 = 1)).toNat) % 2 = 0 := by
  by_cases h : n % 2 = 1 <;> simp [h] <;> omega

theorem odd_with_parity (n : Nat) : (n + (decide (n % 2 = 0)).toNat) % 2 = 1 := by
  by_cases h : n % 2 = 0 <;> simp [h] <;> omega

/-! ## The bits on the line -/

theorem State.advanceTo_mode (s : State) (t : Nat) : (s.advanceTo t).mode = s.mode := by simp [State.mode]

theorem State.nextBit_frame {u : State} {f : Frame} {b : Bool} (noTest : u.mod.test = none) (frame : u.mod.frame = some f)
    (bit : f.bits[f.bit + 1]? = some b) :
    u.nextBit = u.setMod { u.mod with
      frame := some { f with bit := f.bit + 1 }, increment := bitIncrement u.mode b, bitSamples := u.mod.bitSamples - 16 } := by
  simp [State.nextBit, noTest, frame, bit]

/-- The modulator at the end of a frame's last stop bit. -/
def State.frameOver (v : State) : State := v.setMod { v.mod with frame := none, bitSamples := v.mod.bitSamples - 16 }

theorem execCharacterBoundary_frame {s : State} {f : Frame} (frame : s.mod.frame = some f) (last : f.bit + 1 = f.bits.length) :
    exec .characterBoundary s = .next ((s.advanceTo s.bitEnd).frameEnd f) := by
  show execCharacterBoundary s = _
  simp [execCharacterBoundary, frame, last]

theorem State.frameEnd_cell {u : State} {f : Frame} (cell : f.kind = .cell) :
    u.frameEnd f = if u.call.breakInProgress then u.frameOver.startBreak else u.frameOver.chooseNext false := by
  simp only [State.frameEnd, cell]
  rfl

theorem State.frameEnd_flow {u : State} {f : Frame} {c : FlowCode} (flow : f.kind = .flow c) :
    u.frameEnd f = if u.call.breakInProgress then (u.flowComplete c).frameOver.startBreak
      else (u.flowComplete c).frameOver.chooseNext false := by
  have call : (u.flowComplete c).call = u.call := by simp
  simp only [State.frameEnd, flow, State.setMod_call, call]
  rfl

theorem bitIncrement_eq (m : Mode) (b : Bool) :
    bitIncrement m b = if b then markIncrement m else spaceIncrement m := rfl

/-- Settles O28: the frame's parts, the end of each of its bits, and the overflow that ends it. -/
theorem frameSent : Obligations.FrameSent := by
  refine ⟨fun f code => ⟨frameBits_length f code, by rw [frameBits_eq]; rfl, fun i => frameBits_data f code,
      fun i => frameBits_stop f code, fun p here => ⟨fun d => ?_, fun d => ?_, fun d => ?_, fun d => ?_⟩⟩,
    fun s => ⟨fun f b noTest frame bit => ?_, fun f frame last => ?_, fun none carrier => ?_⟩, fun s f format => ?_,
    fun s p b params => ?_⟩
  · rw [frameBits_eighth here (by rw [d]; rfl) (by rw [d]; rfl)]
    exact even_with_parity _
  · rw [frameBits_eighth here (by rw [d]; rfl) (by rw [d]; rfl)]
    exact odd_with_parity _
  · exact frameBits_eighth here (by rw [d]; rfl) (by rw [d]; rfl)
  · exact frameBits_eighth here (by rw [d]; rfl) (by rw [d]; rfl)
  · intro u
    have within : f.bit + 1 < f.bits.length := (List.getElem?_eq_some_iff.1 bit).1
    have follows : s.mod.bitFollows = true := by simp [Modulator.bitFollows, noTest, frame, within]
    have next := State.nextBit_frame (u := u) (s.advanceTo_test_none _ noTest) ((s.advanceTo_mod_frame _).trans frame) bit
    rw [show u.mode = s.mode from s.advanceTo_mode _] at next
    rw [← next]
    exact if_pos follows
  · intro u ended
    have breaking : u.call.breakInProgress = s.call.breakInProgress := by simp [u]
    rw [execCharacterBoundary_frame frame last]
    refine ⟨fun free cell => ?_, fun waiting cell => ?_, fun c free flow => ?_, fun c waiting flow => ?_⟩
    · rw [State.frameEnd_cell cell, if_neg (by simp [free])]
      rfl
    · rw [State.frameEnd_cell cell, if_pos (by simp [waiting])]
      rfl
    · rw [State.frameEnd_flow flow, if_neg (by simp [free])]
      rfl
    · rw [State.frameEnd_flow flow, if_pos (by simp [waiting])]
      rfl
  · show execCharacterBoundary s = _
    simp [execCharacterBoundary, none, State.arrival_carrier carrier]
  · intro step events
    have inForce : s.FormatInForce f := format
    have step_eq : s.baudStep = step := inForce.baudStep
    have pos : 0 < step := by rw [← step_eq, inForce.baudStep]; exact baudIncrement_pos _
    have full (t : Nat) : 16 ≤ events t ↔ s.bitEnd ≤ s.now + (t - s.now) := by
      rw [s.bitEnd_eq, step_eq, Nat.add_le_add_iff_left]
      exact events_reached_iff pos _
    have later : s.now ≤ s.bitEnd := by rw [s.bitEnd_eq]; exact Nat.le_add_right _ _
    refine ⟨step_eq, later, (full _).2 (by omega), fun t ahead early => ?_⟩
    have := (full t).not.2 (by omega)
    omega
  · rw [State.mode_eq params, bitIncrement_eq]
    cases p.mode <;> cases b <;> rfl

/-! ## Breaks -/

theorem State.Takes.breakRequest {s : State} {src : Addr} (h : s.Takes src) (m : Moment) :
    exec (.breakRequest m src []) s
      = .next (State.reviewed s ((s.heard m.t).breakRule.1.reply src kindCall (s.heard m.t).breakRule.2)) :=
  congrArg _ (h.answered m kindCall State.breakRule)

/-- Settles O29: the request by the call and the modulator, the space, and the guard. -/
theorem breakSent : Obligations.BreakSent := by
  refine ⟨fun s m src takes => ?_, fun s => rfl, fun s d space due => ?_, fun s d guard_ due => ?_⟩
  · intro u
    have call : u.call = s.call := by simp [u]
    have mod : u.mod.st = s.mod.st := by simp [u, State.heard_mod]
    have mode : u.mode = s.mode := by simp [State.mode, call]
    rw [takes.breakRequest]
    refine ⟨fun elsewhere => ?_, fun online busy => ?_, fun online free notCarrier => ?_, fun online free carrier => ?_⟩
    · have rule : u.breakRule = (u, .refused .notInState) := by simp [State.breakRule, call, elsewhere]
      rw [show (s.heard m.t).breakRule = _ from rule]
    · have rule : u.breakRule = (u, .busy .notInState) := by simp [State.breakRule, call, online, busy]
      rw [show (s.heard m.t).breakRule = _ from rule]
    · have rule : u.breakRule = (u.takeBreak, .accepted) := by simp [State.breakRule, call, online, free]
      rw [show (s.heard m.t).breakRule = _ from rule]
      simp [State.takeBreak, mod, notCarrier]
    · have rule : u.breakRule = (u.takeBreak, .accepted) := by simp [State.breakRule, call, online, free]
      rw [show (s.heard m.t).breakRule = _ from rule]
      have begun : u.takeBreak = (u.setCall { u.call with breakInProgress := true }).startBreak :=
        if_pos (mod.trans carrier)
      rw [begun, State.startBreak, show (u.setCall { u.call with breakInProgress := true }).mode = s.mode from mode]
      rfl
  · intro u
    show execBreakSpaceEnd s = _
    have mode : u.mode = s.mode := s.advanceTo_mode d
    simp [execBreakSpaceEnd, space, due, State.atTimer, u, ← mode, Config.breakGuardTime]
  · intro u
    show execBreakGuardEnd s = _
    have mode : u.mode = s.mode := s.advanceTo_mode d
    rw [execBreakGuardEnd, if_pos guard_, due, ← mode]
    exact congrArg _ (State.arrival_carrier rfl)

end Sys2Proof.Machine

/-! PROOFS. The loop test (R75, R76, R92, R93). -/

namespace Sys2Proof.Machine

/-! ## The test accumulator -/

/-- The value at which the test accumulator next crosses: half-scale or the wrap (R75). -/
def LoopTest.nextLevel (l : LoopTest) : Nat := if l.phase.toNat < 32768 then 32768 else 65536

theorem LoopTest.phase_lt_nextLevel (l : LoopTest) : l.phase.toNat < l.nextLevel := by
  have := l.phase.isLt
  unfold LoopTest.nextLevel
  split <;> omega

theorem LoopTest.nextLevel_le (l : LoopTest) : l.nextLevel ≤ 65536 := by
  unfold LoopTest.nextLevel
  split <;> omega

/-- One event: the accumulator moves on, and a crossing is noted where the sum reaches the next level. -/
theorem LoopTest.stepOnce_nextLevel (inc : Nat) (l : LoopTest) :
    l.stepOnce inc = { l with
      samples := l.samples + 1
      phase := BitVec.ofNat 16 (l.phase.toNat + inc)
      due := if l.nextLevel ≤ l.phase.toNat + inc then l.due ++ [l.started + 125 * (l.samples + 1) / 4] else l.due } := by
  have crosses : (l.phase.toNat < 32768 ∧ 32768 ≤ l.phase.toNat + inc) ∨ (32768 ≤ l.phase.toNat ∧ 65536 ≤ l.phase.toNat + inc)
      ↔ l.nextLevel ≤ l.phase.toNat + inc := by
    unfold LoopTest.nextLevel
    split <;> omega
  simp only [LoopTest.stepOnce_eq, crosses]

/-- The test after `n` events below the next level. -/
def LoopTest.moved (l : LoopTest) (inc n : Nat) : LoopTest :=
  { l with samples := l.samples + n, phase := BitVec.ofNat 16 (l.phase.toNat + n * inc) }

theorem LoopTest.moved_phase {l : LoopTest} {inc n : Nat} (below : l.phase.toNat + n * inc < l.nextLevel) :
    (l.moved inc n).phase.toNat = l.phase.toNat + n * inc := by
  have := l.nextLevel_le
  simp only [LoopTest.moved, BitVec.toNat_ofNat]
  omega

theorem LoopTest.moved_nextLevel {l : LoopTest} {inc n : Nat} (below : l.phase.toNat + n * inc < l.nextLevel) :
    (l.moved inc n).nextLevel = l.nextLevel := by
  have phase := LoopTest.moved_phase below
  unfold LoopTest.nextLevel at below ⊢
  rw [phase]
  split at below <;> split <;> omega

theorem LoopTest.steps_succ (inc n : Nat) (l : LoopTest) :
    LoopTest.steps inc (n + 1) l = (LoopTest.steps inc n l).stepOnce inc := by
  induction n generalizing l with
  | zero => rfl
  | succ n ih =>
    rw [LoopTest.steps, ih]
    rfl

/-- Events that stay below the next level move the accumulator on and note nothing. -/
theorem LoopTest.steps_below {l : LoopTest} {inc : Nat} (n : Nat) (below : l.phase.toNat + n * inc < l.nextLevel) :
    LoopTest.steps inc n l = l.moved inc n := by
  induction n with
  | zero => simp [LoopTest.steps, LoopTest.moved]
  | succ n ih =>
    rw [Nat.succ_mul] at below
    have before : l.phase.toNat + n * inc < l.nextLevel := by omega
    rw [LoopTest.steps_succ, ih before, LoopTest.stepOnce_nextLevel, LoopTest.moved_nextLevel before,
      LoopTest.moved_phase before, if_neg (by omega)]
    simp only [LoopTest.moved, Nat.succ_mul]
    congr 1
    congr 1
    omega

/-- The event at which the sum first reaches the next level notes the crossing at its own time. -/
theorem LoopTest.steps_crossing {l : LoopTest} {inc n : Nat} (below : l.phase.toNat + n * inc < l.nextLevel)
    (reached : l.nextLevel ≤ l.phase.toNat + (n + 1) * inc) :
    LoopTest.steps inc (n + 1) l = { l with
      samples := l.samples + (n + 1), phase := BitVec.ofNat 16 (l.phase.toNat + (n + 1) * inc)
      due := l.due ++ [l.started + 125 * (l.samples + (n + 1)) / 4] } := by
  have sum : l.phase.toNat + n * inc + inc = l.phase.toNat + (n + 1) * inc := by rw [Nat.succ_mul, Nat.add_assoc]
  rw [LoopTest.steps_succ, LoopTest.steps_below n below, LoopTest.stepOnce_nextLevel, LoopTest.moved_nextLevel below,
    LoopTest.moved_phase below, sum, if_pos reached]
  rfl

theorem toneEvents_at (k : Nat) : toneEvents (125 * k / 4) = k := by
  unfold toneEvents
  omega

theorem State.advanceTo_test_eq {s : State} {l : LoopTest} {t : Nat} (test : s.mod.test = some l) (ahead : s.now < t) :
    (s.advanceTo t).mod.test
      = some (LoopTest.steps s.mod.increment (toneEvents (t - l.started) - l.samples) l) := by
  rw [s.advanceTo_of_lt ahead]
  simp [Modulator.advance, test]

theorem State.handCrossing_due {s : State} {l : LoopTest} {t : Nat} {rest : List Nat} (test : s.mod.test = some l)
    (due : l.due = t :: rest) :
    s.handCrossing = (s.setMod { s.mod with test := some { l with due := rest } }).crossing t := by
  simp [State.handCrossing, test, due]

/-- With the test's events counted up to now, time runs on to just the next crossing. -/
theorem State.advanceTo_nextCrossing {s : State} {l : LoopTest} (test : s.mod.test = some l) (started : l.started ≤ s.now)
    (counted : l.samples = toneEvents (s.now - l.started)) (pos : 0 < s.mod.increment) :
    let k := l.nextCrossing s.mod.increment
    let sum := l.phase.toNat + (k - l.samples) * s.mod.increment
    (s.advanceTo (l.started + 125 * k / 4)).now = l.started + 125 * k / 4
      ∧ (s.advanceTo (l.started + 125 * k / 4)).mod.test
          = some { l with samples := k, phase := BitVec.ofNat 16 sum, due := l.due ++ [l.started + 125 * k / 4] }
      ∧ l.nextLevel ≤ sum ∧ sum - s.mod.increment < l.nextLevel := by
  intro k sum
  have gap := l.phase_lt_nextLevel
  let m := divUp (l.nextLevel - l.phase.toNat) s.mod.increment
  have least (n : Nat) : m ≤ n ↔ l.nextLevel - l.phase.toNat ≤ n * s.mod.increment := divUp_le_iff pos n
  obtain ⟨n, hn⟩ : ∃ n, m = n + 1 := by
    refine ⟨m - 1, (Nat.succ_pred_eq_of_pos (Nat.pos_of_ne_zero fun zero => ?_)).symm⟩
    have := (least 0).1 zero.le
    omega
  have hk : k = l.samples + (n + 1) := by rw [← hn]; rfl
  have hsum : sum = l.phase.toNat + (n + 1) * s.mod.increment := by
    show _ + (k - l.samples) * _ = _
    rw [hk, Nat.add_sub_cancel_left]
  have reached : l.nextLevel ≤ l.phase.toNat + (n + 1) * s.mod.increment := by
    have := (least (n + 1)).1 hn.le
    omega
  have below : l.phase.toNat + n * s.mod.increment < l.nextLevel := by
    have := (least n).not.1 (by omega)
    omega
  have ahead : s.now < l.started + 125 * k / 4 := by
    have := (le_toneEvents_iff (s.now - l.started) k).not.1 (by omega)
    omega
  refine ⟨by rw [State.advanceTo_now]; omega, ?_, hsum ▸ reached, ?_⟩
  · have events : toneEvents (l.started + 125 * k / 4 - l.started) - l.samples = n + 1 := by
      rw [Nat.add_sub_cancel_left, toneEvents_at]
      omega
    rw [State.advanceTo_test_eq test ahead, events, LoopTest.steps_crossing below reached, hsum, hk]
  · rw [hsum, Nat.succ_mul]
    omega

/-! ## The levels of the test -/

theorem testBit_mark {bit : Nat} (h : bit < 45 ∨ 365 ≤ bit) : testBit bit = true := by simp [testBit, h]

/-- The bit times of test frame `k`. -/
theorem testBit_frame {k bit : Nat} (hk : k < 32) (hb : bit < 10) :
    (frameBits testFormat (testChar k))[bit]? = some (testBit (45 + 10 * k + bit)) := by
  have inside : ¬ (45 + 10 * k + bit < 45 ∨ 365 ≤ 45 + 10 * k + bit) := by omega
  have place : (45 + 10 * k + bit - 45) / 10 = k ∧ (45 + 10 * k + bit - 45) % 10 = bit := by omega
  have within : bit < (frameBits testFormat (testChar k)).length := by rw [frameBits_length]; exact hb
  simp [testBit, inside, place, List.getElem?_eq_getElem within]

/-! ## A notice asked for -/

theorem State.askNotice_eq (s : State) (n : Notice) : s.askNotice n = s.setLine (s.askNotice n).line := by
  unfold State.askNotice
  (repeat' split) <;> rfl

/-- What asking for a notice does to the Line Interface rests on it and on the setup record alone. -/
theorem State.askNotice_line_congr {s t : State} (line : t.line = s.line) (msg : t.msg = s.msg) (n : Notice) :
    (t.askNotice n).line = (s.askNotice n).line := by
  simp only [State.askNotice, line, msg]
  (repeat' split) <;> simp_all

/-! ## LOOP TEST -/

theorem State.Takes.loopTest {s : State} {src : Addr} (h : s.Takes src) (m : Moment) :
    exec (.loopTest m src []) s
      = .next (State.reviewed s ((s.heard m.t).loopRule.1.reply src kindCall (s.heard m.t).loopRule.2)) :=
  congrArg _ (h.answered m kindCall State.loopRule)

theorem State.startLoop_call (s : State) : s.startLoop.call = { s.call with st := .loop, loopSeated := s.call.seated } := rfl

theorem State.startLoop_eq (s : State) :
    s.startLoop = ((s.setCall s.startLoop.call).setMod s.startLoop.mod).setDemod s.startLoop.demod := rfl

theorem State.startLoop_demod (s : State) :
    s.startLoop.demod = { s.demod with
      output := true, lastCrossing := none, windowCount := 0, windowTimer := none, presentRun := 0, absentRun := 0
      sampler := Sampler.reset } := rfl

/-- Settles O30: the request by the call state, each bit time and each crossing, and the end of the tail. -/
theorem loopTestRuns : Obligations.LoopTestRuns := by
  refine ⟨fun s m src takes => ?_, fun s l test more => ?_, fun s l t rest test due => ?_, fun s l test none => ?_,
    fun bit k => ⟨testBit_mark, testBit_frame⟩, fun s t => ?_, fun s l test last loop => ?_⟩
  · intro u
    have call : u.call = s.call := by simp [u]
    rw [takes.loopTest]
    refine ⟨fun free => ?_, fun busy => ?_, fun active => ?_⟩
    · have rule : u.loopRule = (u.startLoop, .accepted) := by
        rcases free with st | st <;> simp [State.loopRule, call, st]
      exact ⟨u.startLoop, by rw [show (s.heard m.t).loopRule = _ from rule], by rw [u.startLoop_call, call], rfl,
        u.startLoop_demod, u.startLoop_eq⟩
    · have rule : u.loopRule = (u, .busy .notInState) := by
        rcases busy with st | st <;> simp [State.loopRule, call, st]
      rw [show (s.heard m.t).loopRule = _ from rule]
    · have rule : u.loopRule = (u, .refused .callActive) := by
        rcases active with st | st | st | st <;> simp [State.loopRule, call, st]
      rw [show (s.heard m.t).loopRule = _ from rule]
  · intro u
    obtain ⟨l', test', same⟩ := s.advanceTo_test_some s.bitEnd l test
    have bit : l'.bit = l.bit := by rw [same]
    have follows : s.mod.bitFollows = true := by simp [Modulator.bitFollows, test, more]
    have next : u.nextBit = u.setMod { u.mod with
        test := some { l' with bit := l.bit + 1 }, increment := bitIncrement .originate (testBit (l.bit + 1))
        bitSamples := u.mod.bitSamples - 16 } := by
      simp [State.nextBit, u, test', bit]
    exact ⟨l', test', (if_pos follows).trans (congrArg _ next)⟩
  · show execTestAccumulatorCrossing s = _
    simp [execTestAccumulatorCrossing, test, due, State.handCrossing_due test due]
  · intro inc k at_ u
    have handed : exec .testAccumulatorCrossing s = .next u.handCrossing := by
      show execTestAccumulatorCrossing s = _
      rw [execTestAccumulatorCrossing, test]
      exact if_pos (by simp [none])
    refine ⟨fun l' t rest test' due => ?_, fun started counted pos _ => ?_⟩
    · rw [handed, State.handCrossing_due test' due]
    · intro sum
      obtain ⟨now, test', reached, before⟩ := State.advanceTo_nextCrossing test started counted pos
      rw [none, List.nil_append] at test'
      refine ⟨now, test', ?_, ?_⟩
      · unfold LoopTest.nextLevel at reached before
        split <;> next half => simp only [half, if_true, if_false] at reached before; exact ⟨reached, before⟩
      · exact handed.trans (congrArg _ (State.handCrossing_due test' rfl))
  · intro timed
    refine ⟨fun first => State.crossing_first _ first, fun last after loop => ?_⟩
    intro us mark space edge
    have low : s.hearsHigh = false := by simp [State.hearsHigh, loop]
    have isMark_eq : isMark s.hearsHigh (t - last) = mark := by rw [low]; rfl
    have isSpace_eq : isSpace s.hearsHigh (t - last) = space := by rw [low]; rfl
    have edge_iff : s.startEdge ↔ edge := by simp [State.startEdge, loop, samplerRuns, edge]
    refine ⟨fun h => ?_, fun h noEdge => ?_, fun h isEdge => ?_, fun notMark notSpace => ?_⟩
    · rw [State.crossing_mark after (isMark_eq ▸ h)]
    · rw [State.crossing_space after (isSpace_eq ▸ h) (edge_iff.not.2 noEdge)]
    · rw [State.crossing_edge after (isSpace_eq ▸ h) (edge_iff.2 isEdge)]
      rfl
    · rw [State.crossing_invalid after (isMark_eq ▸ notMark) (isSpace_eq ▸ notSpace)]
  · intro u silent stopped v
    obtain ⟨l', test', same⟩ := s.advanceTo_test_some s.bitEnd l test
    have call : u.call = s.call := by simp [u]
    have ended : exec .loopTestEnd s = .next (State.reviewed s (u.endLoop 32 l.mismatches false)) := by
      show execLoopTestEnd s = _
      rw [execLoopTestEnd, test]
      exact if_pos ⟨loop, last⟩
    have vCall : v.call = { u.call with st := if s.call.seated then .ready else .idle } := by simp [v]
    rw [ended]
    refine congrArg (fun x => Host.Outcome.next (State.reviewed s x)) ?_
    have first : ((u.silence.demodStop).setCall { u.call with st := restState u.call.seated }).askNotice
        (.loopResult 32 l.mismatches false) = v := by
      rw [show u.call.seated = s.call.seated by rw [call]]
      rfl
    unfold State.endLoop
    dsimp only
    rw [first, State.askHandset, vCall, call]

end Sys2Proof.Machine

/-! PROOFS. The Call Controller: readings of the cups (R78, R79, R87 to R89), calls placed (R81, R82) and ended (R82, R86, R89, R90,
R93 to R95). -/

namespace Sys2Proof.Machine

/-- Steps that end in the review of equal states are equal. -/
theorem reviewed_congr (before : State) {t u : State} (h : t = u) :
    (Host.Outcome.next (State.reviewed before t) : Answered) = .next (State.reviewed before u) := by rw [h]

/-! ## Readings of the cups -/

theorem State.cupReading_due {s : State} {d : Nat} (due : s.call.cupTimer = some d) (a b : Bool) :
    s.cupReading a b = ((s.advanceTo d).setCall { (s.advanceTo d).call with
      cupTimer := some ((s.advanceTo d).now + 1000) }).readCups a b := by
  simp [State.cupReading, due, Config.cupPeriod]

theorem State.readCups_opened {r : State} {a b : Bool} (seated : r.call.seated = true) (opened : (a && b) = false) :
    r.readCups a b = (r.setPins { r.pins with cupA := a, cupB := b }).unseat := by
  simp [State.readCups, seated, opened]

theorem State.readCups_open {r : State} {a b : Bool} (unseated : r.call.seated = false) (opened : (a && b) = false) :
    r.readCups a b = (r.setPins { r.pins with cupA := a, cupB := b }).setCall { r.call with filter := 0 } := by
  simp [State.readCups, unseated, opened]

theorem State.readCups_counted {r : State} {a b : Bool} {n : Nat} (unseated : r.call.seated = false)
    (closed : (a && b) = true) (count : r.call.filter = n) (early : n ≠ 49) :
    r.readCups a b = (r.setPins { r.pins with cupA := a, cupB := b }).setCall { r.call with filter := n + 1 } := by
  have : ¬ n + 1 = Config.seatReadings := by
    simp only [Config.seatReadings]
    omega
  simp [State.readCups, unseated, closed, count, this]

theorem State.readCups_seated {r : State} {a b : Bool} (unseated : r.call.seated = false) (closed : (a && b) = true)
    (fiftieth : r.call.filter = 49) : r.readCups a b = (r.setPins { r.pins with cupA := a, cupB := b }).seat := by
  have : r.call.filter + 1 = Config.seatReadings := by
    simp only [Config.seatReadings]
    omega
  simp [State.readCups, unseated, closed, this]

/-- The cups noted as UNSEATED, with the filter's count at 0. -/
def State.lifted (r : State) : State := r.setCall { r.call with seated := false, filter := 0 }

/-- The cups noted as SEATED, with the filter's count at 0. -/
def State.lowered (r : State) : State := r.setCall { r.call with seated := true, filter := 0 }

section Cups

variable {r : State}

theorem State.unseat_noted (st : r.call.st = .idle ∨ r.call.st = .dropping) : r.unseat = r.lifted.askHandset := by
  rcases st with st | st <;> simp [State.unseat, st, State.lifted]

theorem State.unseat_ready (st : r.call.st = .ready) :
    r.unseat = (r.lifted.setCall { r.lifted.call with st := .idle }).askHandset := by
  simp [State.unseat, st, State.lifted]

theorem State.unseat_loop (st : r.call.st = .loop) : r.unseat = r.lifted := by
  simp [State.unseat, st, State.lifted]

theorem State.unseat_muting (st : r.call.st = .online ∨ r.call.st = .fading) :
    r.unseat = (r.lifted.setCall { r.lifted.call with
      muted := true, unseat := some (r.now + 1000000) }).askHandset := by
  rcases st with st | st <;> simp [State.unseat, st, State.lifted, Config.unseatTime]

theorem State.unseat_dropping (st : r.call.st = .origWait ∨ r.call.st = .ansTone) :
    r.unseat = r.lifted.askHandset.enterDropping .handset := by
  rcases st with st | st <;> simp [State.unseat, st, State.lifted]

theorem State.seat_idle (st : r.call.st = .idle) :
    r.seat = (r.lowered.setCall { r.lowered.call with st := .ready }).askHandset := by
  simp [State.seat, st, State.lowered]

theorem State.seat_loop (st : r.call.st = .loop) : r.seat = r.lowered := by simp [State.seat, st, State.lowered]

theorem State.seat_muted (st : r.call.st = .online ∨ r.call.st = .fading) (muted : r.call.muted = true) :
    r.seat = ((r.lowered.setCall { r.lowered.call with muted := false, unseat := none }).askHandset).arrival := by
  rcases st with st | st <;> simp [State.seat, st, State.unmute, muted, State.lowered]

theorem State.seat_noted (st : r.call.st = .origWait ∨ r.call.st = .ansTone ∨ r.call.st = .dropping) :
    r.seat = r.lowered.askHandset := by
  rcases st with st | st | st <;> simp [State.seat, st, State.lowered]

end Cups

/-- Settles O31: a reading by the cups before it, and unseating and seating by the call state. -/
theorem cupsRead : Obligations.CupsRead := by
  refine ⟨fun s a b d due seated opened => ?_, fun s a b d due unseated => ?_⟩
  · intro v u
    have call : v.call = s.call := by simp [v]
    let read := (v.setCall { v.call with cupTimer := some (v.now + 1000) }).setPins { v.pins with cupA := a, cupB := b }
    have reading : s.cupReading a b = read.unseat := by
      rw [State.cupReading_due due]
      exact State.readCups_opened (by simpa [call] using seated) opened
    have stands {st : CallState} (h : s.call.st = st) : read.call.st = st := by
      show v.call.st = st
      rw [call, h]
    have muted : s.call.muted = v.call.muted := by rw [call]
    refine ⟨read.unseat, ?_, ?_, fun st => ?_, fun st => ?_, fun st => ?_, fun st => ?_, fun st => ?_⟩
    · show execCupsUnseated a b s = _
      simp [execCupsUnseated, seated, opened, reading, State.made]
    · show execCupSwitchReading a b s = _
      simp [execCupSwitchReading, reading, State.made]
    · rw [State.unseat_noted (st.imp stands stands), muted]
      rfl
    · rw [State.unseat_ready (stands st), muted]
      rfl
    · exact State.unseat_loop (stands st)
    · exact State.unseat_muting (st.imp stands stands)
    · rw [State.unseat_dropping (st.imp stands stands), muted]
      rfl
  · intro v read u
    have call : v.call = s.call := by simp [v]
    have unseated' : v.call.seated = false := by rw [call, unseated]
    have filter : v.call.filter = s.call.filter := by rw [call]
    have reading : exec (.cupSwitchReading a b) s = .next (State.reviewed s
        ((v.setCall { v.call with cupTimer := some (v.now + 1000) }).readCups a b)) := by
      show execCupSwitchReading a b s = _
      rw [execCupSwitchReading, State.cupReading_due due]
      rfl
    refine ⟨fun opened => ?_, fun closed early => ?_, fun closed fiftieth => ?_⟩
    · exact reading.trans (reviewed_congr s (State.readCups_open unseated' opened))
    · exact reading.trans (reviewed_congr s (State.readCups_counted unseated' closed filter early))
    · have seats : (v.setCall { v.call with cupTimer := some (v.now + 1000) }).readCups a b = read.seat :=
        State.readCups_seated unseated' closed (filter.trans fiftieth)
      have stands {st : CallState} (h : s.call.st = st) : read.call.st = st := by
        show v.call.st = st
        rw [call, h]
      have muted : s.call.muted = v.call.muted := by rw [call]
      refine ⟨read.seat, by rw [reading, seats], ?_, fun st => ?_, fun st => ?_, fun st isMuted => ?_, fun st => ?_⟩
      · obtain ⟨rfl, rfl⟩ : a = true ∧ b = true := by simpa using closed
        show execCupsSeated s = _
        have full : s.call.filter + 1 = Config.seatReadings := by rw [fiftieth]; rfl
        rw [execCupsSeated, if_pos (by simp [unseated, full]), State.cupReading_due due, ← seats]
        rfl
      · rw [State.seat_idle (stands st), muted]
        rfl
      · exact State.seat_loop (stands st)
      · exact State.seat_muted (st.imp stands stands) (muted ▸ isMuted)
      · rw [State.seat_noted (st.imp stands (.imp stands stands)), muted]
        rfl

/-! ## ORIGINATE and ANSWER -/

theorem rateOf_eq_none {r : Byte} (h : 2 < r.toNat) : rateOf r = none := by
  unfold rateOf
  split
  case h_4 => rfl
  all_goals omega

theorem dataOf_eq_none {d : Byte} (h : 5 < d.toNat) : dataOf d = none := by
  unfold dataOf
  split
  case h_7 => rfl
  all_goals omega

theorem stopOf_eq_none {b : Byte} (h : b = 0 ∨ 2 < b.toNat) : stopOf b = none := by
  have : b.toNat = 0 ∨ 2 < b.toNat := h.imp_left fun zero => by simp [zero]
  unfold stopOf
  split
  case h_3 => rfl
  all_goals omega

theorem formatOf_eq_none {r d b : Byte} (h : 2 < r.toNat ∨ 5 < d.toNat ∨ b = 0 ∨ 2 < b.toNat) :
    formatOf [r, d, b] = none := by
  simp only [formatOf]
  split
  · next hr hd hb =>
    rcases h with h | h | h
    · simp [rateOf_eq_none h] at hr
    · simp [dataOf_eq_none h] at hd
    · simp [stopOf_eq_none h] at hb
  · rfl

theorem formatOf_eq_some {r d b : Byte} {rate : Rate} {data : DataFormat} {stop : StopBits} (hr : rateOf r = some rate)
    (hd : dataOf d = some data) (hb : stopOf b = some stop) :
    formatOf [r, d, b] = some { rate := rate, data := data, stop := stop } := by
  simp [formatOf, hr, hd, hb]

section Place

variable {s : State} {src : Addr} (takes : s.Takes src) (m : Moment)
include takes

theorem State.Takes.originate (r d b : Byte) :
    exec (.originate m src [r, d, b]) s
      = .next (State.reviewed s (((s.heard m.t).placeCall .originate [r, d, b]).1.reply src kindCall
          ((s.heard m.t).placeCall .originate [r, d, b]).2)) :=
  congrArg _ (takes.answered m kindCall fun u => u.placeCall .originate [r, d, b])

theorem State.Takes.answer (r d b : Byte) :
    exec (.answer m src [r, d, b]) s
      = .next (State.reviewed s (((s.heard m.t).placeCall .answer [r, d, b]).1.reply src kindCall
          ((s.heard m.t).placeCall .answer [r, d, b]).2)) :=
  congrArg _ (takes.answered m kindCall fun u => u.placeCall .answer [r, d, b])

/-- Both requests get one answer where the call is left as it is. -/
theorem State.Takes.place_unchanged {r d b : Byte} {a : Answer}
    (rule : ∀ mode, (s.heard m.t).placeCall mode [r, d, b] = (s.heard m.t, a)) :
    exec (.originate m src [r, d, b]) s = .next (State.reviewed s ((s.heard m.t).reply src kindCall a))
      ∧ exec (.answer m src [r, d, b]) s = .next (State.reviewed s ((s.heard m.t).reply src kindCall a)) := by
  rw [takes.originate, takes.answer, rule, rule]
  exact ⟨rfl, rfl⟩

theorem State.Takes.drop :
    exec (.drop m src []) s
      = .next (State.reviewed s ((s.heard m.t).dropRule.1.reply src kindCall (s.heard m.t).dropRule.2)) :=
  congrArg _ (takes.answered m kindCall State.dropRule)

end Place

/-- Settles O32: the answer by the call state, and in READY by the format. -/
theorem callPlaced : Obligations.CallPlaced := by
  intro s m src r d b takes u afresh answered
  have call : u.call = s.call := by simp [u]
  have setup : u.msg = s.msg := by simp [u]
  refine ⟨fun st => ?_, fun st => ?_, fun st => ?_, fun st outside => ?_, fun st rate data stop hr hd hb => ?_⟩
  · refine takes.place_unchanged m fun mode => ?_
    simp [State.placeCall, st]
  · refine takes.place_unchanged m fun mode => ?_
    rcases st with st | st <;> simp [State.placeCall, st]
  · refine takes.place_unchanged m fun mode => ?_
    rcases st with st | st | st | st <;> simp [State.placeCall, st]
  · refine takes.place_unchanged m fun mode => ?_
    simp only [State.placeCall, show (s.heard m.t).call.st = .ready from call ▸ st, formatOf_eq_none outside]
  · intro placed
    have ready : u.call.st = .ready := call ▸ st
    have format := formatOf_eq_some hr hd hb
    refine ⟨?_, ?_⟩
    · have rule : u.placeCall .originate [r, d, b]
          = ((u.setCall (placed .origWait .originate)).setDemod afresh, .accepted) := by
        simp only [State.placeCall, ready, format, setup]
        rfl
      rw [takes.originate, show (s.heard m.t).placeCall .originate [r, d, b] = _ from rule]
    · have rule : u.placeCall .answer [r, d, b]
          = (((u.setCall (placed .ansTone .answer)).setMod { u.mod with
              st := .carrier, phase := 0, increment := 4557, frame := none }).setDemod afresh, .accepted) := by
        simp only [State.placeCall, ready, format, setup]
        rfl
      rw [takes.answer, show (s.heard m.t).placeCall .answer [r, d, b] = _ from rule]

/-! ## Dropping -/

theorem State.changePool_quiet {s : State} (p : Pool) (quiet : s.call.st.carrying = false) :
    s.changePool p = s.setPool p := by
  unfold State.changePool
  dsimp only
  split
  · rfl
  · exact State.evaluateFlow_idle (.inl quiet)

/-- Entry to DROPPING, as one equation. -/
theorem State.enterDropping_eq (s : State) (cause : DropCause) :
    s.enterDropping cause = ((((s.silence.demodStop).setCall { s.call with
      st := .dropping, muted := false, breakInProgress := false, carrierWait := none, fade := none, unseat := none,
      dropCause := some cause, silence := some (s.now + 1000000) }).setPool (s.pool.discard .txq)).setRouter
        { s.router with flow := .clear, inFlight := none, remoteStopped := false }).askNotice (.carrierDown cause s.call.st) := by
  unfold State.enterDropping State.discardChain
  dsimp only
  rw [State.changePool_quiet _ rfl]
  rfl

theorem State.dropRule_call {s : State} (inCall : s.call.st = .origWait ∨ s.call.st = .ansTone ∨ s.call.st = .online
    ∨ s.call.st = .fading) : s.dropRule = (s.enterDropping .requested, .accepted) := by
  rcases inCall with st | st | st | st <;> simp [State.dropRule, st]

/-- Settles O33: the entry as one equation, the three timers and the silence, and DROP by the call state. -/
theorem callEnded : Obligations.CallEnded := by
  refine ⟨fun s cause => ?_, fun s d => ⟨fun st due => ?_, fun st due => ?_, fun st due => ?_, fun st due => ?_⟩,
    fun s m src takes => ?_⟩
  · intro t
    have eq := s.enterDropping_eq cause
    have asked (v : State) : ∃ l, v.askNotice (.carrierDown cause s.call.st) = v.setLine l :=
      ⟨_, v.askNotice_eq _⟩
    obtain ⟨l, hl⟩ := asked ((((s.silence.demodStop).setCall { s.call with
      st := .dropping, muted := false, breakInProgress := false, carrierWait := none, fade := none, unseat := none,
      dropCause := some cause, silence := some (s.now + 1000000) }).setPool (s.pool.discard .txq)).setRouter
        { s.router with flow := .clear, inFlight := none, remoteStopped := false })
    have line : t.line = (s.askNotice (.carrierDown cause s.call.st)).line := by
      show (s.enterDropping cause).line = _
      rw [eq]
      exact State.askNotice_line_congr (by rfl) (by rfl) _
    rw [hl] at eq
    refine ⟨?_, ?_, ?_, ?_, ?_, line, ?_⟩ <;> simp only [t, eq] <;> rfl
  · show execCarrierWaitExpiry s = _
    rw [execCarrierWaitExpiry, if_pos st, s.onTimer_running due]
  · show execFadeExpiry s = _
    rw [execFadeExpiry, if_pos st, s.onTimer_running due]
  · show execUnseatExpiry s = _
    rw [execUnseatExpiry, if_pos ((CallState.carrying_iff _).2 st), s.onTimer_running due]
  · show execSilenceExpiry s = _
    rw [execSilenceExpiry, if_pos st, due]
    simp [State.atTimer, State.silenceEnd, restState]
  · intro u
    have call : u.call = s.call := by simp [u]
    rw [takes.drop]
    refine ⟨fun inCall => ?_, fun st => ?_, fun loop l test => ?_⟩
    · rw [State.dropRule_call (by rwa [show (s.heard m.t).call = s.call from call])]
    · have rule : u.dropRule = (u, .refused .notInState) := by
        rcases st with st | st | st <;> simp [State.dropRule, call, st]
      rw [show (s.heard m.t).dropRule = _ from rule]
    · have rule : u.dropRule = (u.endLoop (testFramesSent l.bit) l.mismatches true, .accepted) := by
        simp [State.dropRule, State.abortLoop, call, loop, test]
      refine ⟨_, by rw [show (s.heard m.t).dropRule = _ from rule], ?_⟩
      have pool : u.pool = s.pool := by simp [u]
      refine ⟨?_, ?_, ?_, ?_, fun same => ?_⟩
      · simp [State.endLoop, State.askHandset, apply_ite, call, restState]
      · simp [State.endLoop, State.askHandset, apply_ite, State.silence]
      · simp [State.endLoop, State.askHandset, apply_ite, State.silence]
      · simp [State.endLoop, State.askHandset, apply_ite, pool]
      · have still : s.call.seated = s.call.loopSeated := same
        simp only [State.endLoop]
        rw [if_pos (by simpa [call] using still)]
        exact State.askNotice_line_congr (by rfl) (by rfl) _

end Sys2Proof.Machine

/-! PROOFS. The Line Assembler: cells taken from PRQ and images opened (R102, R103, R114), images closed (R112), and the idle
flush. -/

namespace Sys2Proof.Machine

/-! ## Images by name -/

@[simp] theorem Assembler.image_setImage (a : Assembler) (id : ImageId) (i : Image) : (a.setImage id i).image id = i := by
  cases id <;> rfl

@[simp] theorem Assembler.setImage_setImage (a : Assembler) (id : ImageId) (i j : Image) :
    (a.setImage id i).setImage id j = a.setImage id j := by cases id <;> rfl

section Fields

variable (a : Assembler) (id : ImageId) (i : Image)

@[simp] theorem Assembler.setImage_column : (a.setImage id i).column = a.column := by cases id <;> rfl
@[simp] theorem Assembler.setImage_crFlag : (a.setImage id i).crFlag = a.crFlag := by cases id <;> rfl
@[simp] theorem Assembler.setImage_truncating : (a.setImage id i).truncating = a.truncating := by cases id <;> rfl
@[simp] theorem Assembler.setImage_carried : (a.setImage id i).carried = a.carried := by cases id <;> rfl
@[simp] theorem Assembler.setImage_stagedDarkness : (a.setImage id i).stagedDarkness = a.stagedDarkness := by cases id <;> rfl
@[simp] theorem Assembler.setImage_stagedWide : (a.setImage id i).stagedWide = a.stagedWide := by cases id <;> rfl
@[simp] theorem Assembler.setImage_flushTimer : (a.setImage id i).flushTimer = a.flushTimer := by cases id <;> rfl
@[simp] theorem Assembler.setImage_formPosition : (a.setImage id i).formPosition = a.formPosition := by cases id <;> rfl
@[simp] theorem Assembler.setImage_committed : (a.setImage id i).committed = a.committed := by cases id <;> rfl
@[simp] theorem Assembler.setImage_nextOrder : (a.setImage id i).nextOrder = a.nextOrder := by cases id <;> rfl

end Fields

theorem Assembler.openId_cases (a : Assembler) :
    (a.image1.st = .opened → a.openId = some .one)
      ∧ (a.image1.st ≠ .opened → a.image2.st = .opened → a.openId = some .two)
      ∧ (a.image1.st ≠ .opened → a.image2.st ≠ .opened → a.openId = none) :=
  ⟨fun h => if_pos h, fun h g => (if_neg h).trans (if_pos g), fun h g => (if_neg h).trans (if_neg g)⟩

theorem Assembler.freeId_cases (a : Assembler) :
    (a.image1.st = .free → a.freeId = some .one)
      ∧ (a.image1.st ≠ .free → a.image2.st = .free → a.freeId = some .two)
      ∧ (a.image1.st ≠ .free → a.image2.st ≠ .free → a.freeId = none) :=
  ⟨fun h => if_pos h, fun h g => (if_neg h).trans (if_pos g), fun h g => (if_neg h).trans (if_neg g)⟩

/-- With none OPEN before, an image made OPEN is the OPEN one. -/
theorem Assembler.openId_setImage {a : Assembler} (none : a.openId = none) (id : ImageId) {i : Image} (opened : i.st = .opened) :
    (a.setImage id i).openId = some id := by
  have first : a.image1.st ≠ .opened := fun h => by simp [a.openId_cases.1 h] at none
  cases id with
  | one => exact if_pos opened
  | two => exact (if_neg first).trans (if_pos opened)

/-! ## Placements -/

@[simp] theorem Assembler.placeAt_column (a : Assembler) (id : ImageId) (g : Glyph) :
    (a.placeAt id g).column = a.column + 1 := rfl

@[simp] theorem Assembler.placeAt_wide (a : Assembler) (id : ImageId) (g : Glyph) :
    ((a.placeAt id g).image id).wide = (a.image id).wide := by cases id <;> rfl

theorem Assembler.placeAt_openId (a : Assembler) (id : ImageId) (g : Glyph) : (a.placeAt id g).openId = a.openId := by
  cases id <;> rfl

/-- Placements that the width has room for are all made (R102). -/
theorem Assembler.placeCarried_fits (id : ImageId) (gs : List Glyph) :
    ∀ a : Assembler, a.column + gs.length ≤ columnsOf (a.image id).wide →
      a.placeCarried id gs = { gs.foldl (fun a g => a.placeAt id g) a with carried := [] } := by
  induction gs with
  | nil => exact fun _ _ => rfl
  | cons g rest ih =>
    intro a fits
    rw [List.length_cons] at fits
    have room : a.column < columnsOf (a.image id).wide := by omega
    rw [Assembler.placeCarried, if_pos room, ih (a.placeAt id g) (by simp; omega)]
    rfl

theorem Assembler.foldl_placeAt_openId (id : ImageId) (gs : List Glyph) (a : Assembler) :
    (gs.foldl (fun a g => a.placeAt id g) a).openId = a.openId := by
  induction gs generalizing a with
  | nil => rfl
  | cons g rest ih => rw [List.foldl_cons, ih, Assembler.placeAt_openId]

/-! ## Opening an image -/

/-- The image that an opening makes (R99, R102). -/
def Assembler.freshImage (a : Assembler) : Image :=
  { st := .opened, wide := a.stagedWide, darkness := a.stagedDarkness,
    cells := List.replicate (columnsOf a.stagedWide) .empty, blanksAfter := 0, order := 0 }

/-- The assembler with an image opened, before the placements carried are made in it. -/
def State.withOpened (s : State) (id : ImageId) : Assembler :=
  { s.asm.setImage id s.asm.freshImage with flushTimer := s.flushEnd }

theorem State.withOpened_image (s : State) (id : ImageId) : (s.withOpened id).image id = s.asm.freshImage := by
  cases id <;> rfl

@[simp] theorem State.withOpened_carried (s : State) (id : ImageId) : (s.withOpened id).carried = s.asm.carried := by
  cases id <;> rfl

@[simp] theorem State.withOpened_column (s : State) (id : ImageId) : (s.withOpened id).column = s.asm.column := by
  cases id <;> rfl

theorem State.withOpened_openId {s : State} (none : s.asm.openId = none) (id : ImageId) :
    (s.withOpened id).openId = some id :=
  Assembler.openId_setImage (i := s.asm.freshImage) none id rfl

theorem State.openImage_kept {s : State}
    (h : s.asm.openId ≠ none ∨ s.asm.freeId = none ∨ (s.asm.carried = [] ∧ s.pool.prq = [])) : s.openImage = s := by
  unfold State.openImage
  split
  · next id none free =>
    rcases h with h | h | ⟨carried, prq⟩
    · exact absurd none h
    · simp [h] at free
    · simp [carried, prq]
  · rfl

theorem State.openImage_opened {s : State} {id : ImageId} (none : s.asm.openId = none) (free : s.asm.freeId = some id)
    (something : ¬ (s.asm.carried = [] ∧ s.pool.prq = []))
    (fits : s.asm.carried = [] ∨ s.asm.column + s.asm.carried.length ≤ if s.asm.stagedWide then 40 else 80) :
    s.openImage = s.setAsm { s.asm.carried.foldl (fun a g => a.placeAt id g) (s.withOpened id) with carried := [] } := by
  have work : (s.pool.prq.isEmpty && s.asm.carried.isEmpty) = false := by
    rw [Bool.eq_false_iff]
    simpa [and_comm] using something
  have opened : s.openImage = s.setAsm ((s.withOpened id).placeCarried id (s.withOpened id).carried) := by
    simp only [State.openImage, none, free, work]
    rfl
  rw [opened, State.withOpened_carried]
  rcases fits with none | fits
  · rw [none]
    rfl
  · rw [Assembler.placeCarried_fits]
    rw [State.withOpened_image, State.withOpened_column]
    exact fits

/-- An assembler without placements carried, with none carried. -/
theorem Assembler.withCarried_nil {a : Assembler} (none : a.carried = []) : ({ a with carried := [] } : Assembler) = a := by
  rw [← none]

/-! ## Taking a cell from PRQ -/

theorem Pool.take_prq_empty {p : Pool} (empty : p.prq = []) : p.take .prq = none := Pool.take_none_of_empty empty

section Take

variable {v : State} (sense : Sense)

theorem State.takePrq_closed (closed : v.openImage.asm.openId = none) : v.takePrq sense = v.openImage := by
  simp only [State.takePrq, closed]

variable {id : ImageId} (opened : v.openImage.asm.openId = some id)
include opened

theorem State.takePrq_none (h : v.openImage.asm.carried ≠ [] ∨ v.pool.prq = []) : v.takePrq sense = v.openImage := by
  simp only [State.takePrq, opened]
  split
  · next none =>
    have prq := h.resolve_left fun some => some (by simpa using none)
    simp [State.takeCell, Pool.take_prq_empty prq]
  · rfl

theorem State.takePrq_cell (carried : v.openImage.asm.carried = []) {cell : Cell} {p : Pool}
    (taken : v.pool.take .prq = some (cell, p)) :
    v.takePrq sense = ((((v.openImage.changePool p).setAsm { (v.openImage.changePool p).asm with
      flushTimer := v.flushEnd }).handleCell id cell sense).arrival) := by
  have flush : (v.openImage.changePool p).flushEnd = v.flushEnd := by simp [State.flushEnd]
  have cells : v.openImage.takeCell .prq = some (cell, v.openImage.changePool p) := by simp [State.takeCell, taken]
  simp only [State.takePrq, opened, carried, cells, flush]
  rfl

end Take

/-- Settles O35: what the opening of an image leaves, and then the head cell. -/
theorem prqCellTaken : Obligations.PrqCellTaken := by
  refine ⟨fun s m => ?_, fun s => ?_⟩
  · intro v started takes
    have asm : v.asm = s.asm := by simp [v]
    have pool : v.pool = s.pool := by simp [v]
    have flush : v.flushEnd = started := by simp [State.flushEnd, v, started]
    have exec_eq : exec (.takePrqCell m) s = .next (State.reviewed s (v.takePrq m.sense)) := rfl
    have take (u : State) (id : ImageId) (image : v.openImage = u) (opened : u.asm.openId = some id) (none : u.asm.carried = []) :
        takes u id := by
      intro cell p taken w
      rw [exec_eq, State.takePrq_cell m.sense (image ▸ opened) (image ▸ none) (pool ▸ taken), image, flush]
    refine ⟨fun id opened => ?_, fun none noCarried h => ?_, fun none id free => ?_,
      fun a => ⟨a.openId_cases.1, a.openId_cases.2.1, a.openId_cases.2.2, a.freeId_cases⟩⟩
    · have kept : v.openImage = v := State.openImage_kept (.inl (by simp [asm, opened]))
      have here : v.asm.openId = some id := by rw [asm, opened]
      refine ⟨fun h => ?_, fun none => take v id kept here (by rw [asm, none])⟩
      rw [exec_eq, State.takePrq_none m.sense (kept.symm ▸ here) (by rwa [kept, asm, pool]), kept]
    · have kept : v.openImage = v := State.openImage_kept (.inr (by
        rw [asm, pool]
        exact h.imp_right fun prq => ⟨noCarried, prq⟩))
      rw [exec_eq, State.takePrq_closed m.sense (by rw [kept, asm, none]), kept]
    · intro width opened
      have openedIs : v.withOpened id = opened := by
        show { v.asm.setImage id v.asm.freshImage with flushTimer := v.flushEnd } = _
        rw [flush, show v.asm.freshImage = s.asm.freshImage by rw [asm]]
        rfl
      have openId : opened.openId = some id := openedIs ▸ State.withOpened_openId (by rw [asm, none]) id
      have made (something : ¬ (s.asm.carried = [] ∧ s.pool.prq = []))
          (fits : s.asm.carried = [] ∨ s.asm.column + s.asm.carried.length ≤ width) :
          v.openImage = v.setAsm { s.asm.carried.foldl (fun a g => a.placeAt id g) opened with carried := [] } := by
        rw [State.openImage_opened (by rw [asm, none]) (by rw [asm, free]) (by rwa [asm, pool]) (by rwa [asm]), openedIs, asm]
      refine ⟨fun noCarried something => ?_, fun carried fits => ?_⟩
      · have image := made (fun h => something h.2) (.inl noCarried)
        have none : opened.carried = [] := by rw [← openedIs, State.withOpened_carried, asm, noCarried]
        rw [noCarried, List.foldl_nil, Assembler.withCarried_nil none] at image
        exact take _ id image openId none
      · intro placed
        have image : v.openImage = placed := made (fun h => carried h.1) (.inr fits)
        have here : placed.asm.openId = some id := (Assembler.foldl_placeAt_openId id _ _).trans openId
        refine ⟨fun prq => ?_, take placed id image here rfl⟩
        rw [exec_eq, State.takePrq_none m.sense (image ▸ here) (.inr (by rw [pool, prq])), image]
  · intro nothing width
    exact ⟨State.openImage_kept, fun id none free something fits => State.openImage_opened none free something (.inr fits)⟩

end Sys2Proof.Machine

/-! PROOFS. The Line Assembler: images closed and the idle flush (R112, R114), every cell's class (R103 to R110) and rendering (R115,
R117). -/

namespace Sys2Proof.Machine

/-! ## Closing an image -/

theorem State.workAppears_blocked {s : State} (sense : Sense) (h : s.eng.holds.any = true ∨ s.eng.inProgress ≠ none) :
    s.workAppears sense = s := by
  have : (s.eng.holds.any || s.eng.inProgress.isSome) = true := by
    simpa [Option.isSome_iff_ne_none] using h
  simp [State.workAppears, this]

theorem State.workAppears_free {s : State} (sense : Sense) (held : s.eng.holds.any = false) (between : s.eng.inProgress = none) :
    s.workAppears sense = s.workTest sense := by
  simp [State.workAppears, held, between]

/-- Settles O37: the flush by the OPEN image, and a closing by whether the engine may make its work test. -/
theorem imageClosed : Obligations.ImageClosed := by
  refine ⟨fun s sense d due => ?_, fun s id blanks sense => ?_⟩
  · intro v u
    have asm : v.asm = s.asm := by simp [v]
    have flush : exec (.idleFlushExpiry sense) s = .next (State.reviewed s (v.idleFlush sense)) :=
      s.onTimer_running due fun s => s.idleFlush sense
    have image (id : ImageId) : u.asm.image id = s.asm.image id := by
      show v.asm.image id = _
      rw [asm]
    have openId : u.asm.openId = s.asm.openId := by
      show v.asm.openId = _
      rw [asm]
    have eq : v.idleFlush sense = (match u.asm.openId with
        | none => u
        | some id => if (u.asm.image id).isEmpty then u else u.closeImage id 0 sense) := rfl
    refine ⟨fun none => ?_, fun id opened => ⟨fun isEmpty => ?_, fun used => ?_⟩⟩
    · rw [flush, eq, openId, none]
    · rw [flush, eq, openId, opened]
      simp [image, isEmpty]
    · rw [flush, eq, openId, opened]
      simp [image, used]
  · intro i v
    have closed : s.closeImage id blanks sense = (v.workAppears sense).openImage := by
      simp only [State.closeImage, ← Nat.add_assoc]
      rfl
    refine ⟨fun blocked => ?_, fun held between => ?_⟩
    · rw [closed, State.workAppears_blocked (s := v) sense blocked]
    · rw [closed, State.workAppears_free (s := v) sense held between]

/-! ## The class of a cell -/

/-- The code of a cell under the high-bit rule (R103). -/
def lowCode (strip : Bool) (c : Cell) : Byte := if strip = true ∧ 0x80 ≤ c.code.toNat then c.code - 0x80 else c.code

/-- The glyph that a cell prints (R103). -/
def Shows (strip : Bool) (c : Cell) (g : Glyph) : Prop :=
  if c.lineBreak = true then g = .lineBreak
  else if c.parity = true ∨ c.framing = true ∨ 0x80 ≤ (lowCode strip c).toNat then g = .error
  else 0x20 ≤ (lowCode strip c).toNat ∧ (lowCode strip c).toNat ≤ 0x7E ∧ g = .printable (lowCode strip c)

theorem lowCode_strip {c : Cell} (high : 0x80 ≤ c.code.toNat) : (lowCode true c).toNat = c.code.toNat - 0x80 := by
  have := c.code.isLt
  simp only [lowCode, high, and_self, if_true]
  bv_omega

/-- Steps 2 to 5 of R103, by the code under the high-bit rule. -/
theorem cellAction_eq (strip : Bool) (c : Cell) :
    cellAction strip c = if c.lineBreak then .glyph .lineBreak
      else if c.parity || c.framing then .glyph .error
      else if 0x80 ≤ (lowCode strip c).toNat then .glyph .error else codeAction (lowCode strip c) := by
  unfold cellAction
  by_cases high : 0x80 ≤ c.code.toNat
  · cases strip with
    | false => simp [high, lowCode]
    | true =>
      have low : ¬ 0x80 ≤ (lowCode true c).toNat := by
        have := c.code.isLt
        rw [lowCode_strip high]
        omega
      simp only [if_pos high, if_neg low, if_true]
      simp [lowCode, high]
  · simp [high, lowCode]

theorem codeAction_glyph_iff (code : Byte) (g : Glyph) :
    codeAction code = .glyph g ↔ 0x20 ≤ code.toNat ∧ code.toNat ≤ 0x7E ∧ g = .printable code := by
  unfold codeAction
  by_cases printable : 0x20 ≤ code.toNat ∧ code.toNat ≤ 0x7E
  · simp [printable, eq_comm]
  · have closed : (decide (0x20 ≤ code.toNat) && decide (code.toNat ≤ 0x7E)) = false := by
      rw [Bool.eq_false_iff]
      simpa using printable
    simp only [closed, Bool.false_eq_true, if_false]
    constructor
    · (repeat' split) <;> exact nofun
    · exact fun h => absurd ⟨h.1, h.2.1⟩ printable

theorem shows_iff (strip : Bool) (c : Cell) (g : Glyph) : Shows strip c g ↔ cellAction strip c = .glyph g := by
  have one (x : Glyph) : g = x ↔ CellAction.glyph x = .glyph g := ⟨fun h => h ▸ rfl, fun h => (CellAction.glyph.inj h).symm⟩
  rw [cellAction_eq, Shows]
  by_cases lineBreak : c.lineBreak = true
  · rw [if_pos lineBreak, if_pos lineBreak, one]
  rw [if_neg lineBreak, if_neg lineBreak]
  by_cases bad : c.parity = true ∨ c.framing = true
  · rw [if_pos (or_assoc.1 (.inl bad)), if_pos (by simpa using bad), one]
  · obtain ⟨parity, framing⟩ := not_or.1 bad
    have good : ¬ (c.parity || c.framing) = true := by simpa using bad
    rw [if_neg good]
    by_cases high : 0x80 ≤ (lowCode strip c).toNat
    · rw [if_pos (.inr (.inr high)), if_pos high, one]
    · rw [if_neg (by simp [parity, framing, high]), if_neg high, codeAction_glyph_iff]

theorem codeAction_ignored {code : Byte} (h : code.toNat < 0x20 ∨ code = 0x7F)
    (other : code ∉ ([0x07, 0x08, 0x09, 0x0A, 0x0C, 0x0D] : List Byte)) : codeAction code = .ignored := by
  have notPrintable : ¬ (0x20 ≤ code.toNat ∧ code.toNat ≤ 0x7E) := by
    rcases h with h | rfl
    · omega
    · decide
  simp only [List.mem_cons, List.not_mem_nil, or_false, not_or] at other
  obtain ⟨h7, h8, h9, hA, hC, hD⟩ := other
  simp only [codeAction, h7, h8, h9, hA, hC, hD, if_false, Bool.and_eq_true, decide_eq_true_eq, notPrintable]

/-- A cell's handling rests on its code under the high-bit rule, and on its NOISE flag not at all (R103). -/
theorem cellAction_low (strip : Bool) (c : Cell) :
    cellAction strip { c with code := lowCode strip c, noise := false } = cellAction strip c := by
  have low : lowCode strip { c with code := lowCode strip c, noise := false } = lowCode strip c := by
    by_cases high : strip = true ∧ 0x80 ≤ c.code.toNat
    · obtain ⟨rfl, high⟩ := high
      have code := lowCode_strip high
      have := c.code.isLt
      have : ¬ 0x80 ≤ (lowCode true c).toNat := by omega
      exact if_neg fun h => this h.2
    · have same : lowCode strip c = c.code := if_neg high
      rw [same]
      exact if_neg high
  simp only [cellAction_eq, low]

/-! ## A glyph placed -/

section Place

variable {s : State} (id : ImageId) (g : Glyph)

theorem State.place_dropped (truncating : s.asm.truncating = true) : s.place id g = (s, .goesOn) := if_pos truncating

variable (open_ : s.asm.truncating = false)
include open_

theorem State.place_within (room : s.asm.column < columnsOf (s.asm.image id).wide) :
    s.place id g = (s.setAsm (s.asm.placeAt id g), .goesOn) := by simp [State.place, open_, room]

theorem State.place_truncated (full : columnsOf (s.asm.image id).wide ≤ s.asm.column) (rule : s.msg.setup.truncate = true) :
    s.place id g = (s.setAsm { s.asm with truncating := true }, .goesOn) := by
  simp [State.place, open_, Nat.not_lt.2 full, rule]

theorem State.place_overflow (full : columnsOf (s.asm.image id).wide ≤ s.asm.column) (rule : s.msg.setup.truncate = false) :
    s.place id g = (s, .overflow) := by simp [State.place, open_, Nat.not_lt.2 full, rule]

end Place

section Handle

variable {s : State} (id : ImageId) (c : Cell) (sense : Sense)

theorem State.handleCell_plain (plain : c.lostBefore = false) :
    s.handleCell id c sense = s.actOn id (cellAction s.msg.setup.strip c) sense := by
  simp [State.handleCell, plain]

theorem State.handleCell_lost_goesOn {s' : State} (lost : c.lostBefore = true) (placed : s.place id .lost = (s', .goesOn)) :
    s.handleCell id c sense = s'.actOn id (cellAction s.msg.setup.strip c) sense := by
  simp [State.handleCell, lost, placed]

theorem State.handleCell_lost_overflow (lost : c.lostBefore = true) (placed : s.place id .lost = (s, .overflow)) :
    s.handleCell id c sense = s.wrap id (carriedWith (cellAction s.msg.setup.strip c)) sense := by
  simp [State.handleCell, lost, placed]

end Handle

/-- Carried behind a LOST glyph that overflows is the cell's own glyph, if it has one (R105). -/
theorem carriedWith_of_not_glyph {act : CellAction} (h : ∀ g, act ≠ .glyph g) : carriedWith act = [.lost] := by
  cases act with
  | glyph g => exact absurd rfl (h g)
  | _ => rfl

theorem ImageCell.strike_space (c : ImageCell) : c.strike (.printable 0x20) = c := rfl

theorem Glyph.isSpace_eq_false {g : Glyph} (h : g ≠ .printable 0x20) : g.isSpace = false := by simpa [Glyph.isSpace] using h

theorem nextTab_eq (column : Nat) : nextTab column = column / 8 * 8 + 8 := by
  unfold nextTab
  omega

theorem State.takeCr_empty {s : State} (id : ImageId) (sense : Sense) (isEmpty : (s.asm.image id).isEmpty = true)
    (column : s.asm.column = 0) : s.takeCr id sense = s.setAsm { s.asm with truncating := false } := by
  have image : ({ s.asm with truncating := false } : Assembler).image id = s.asm.image id := by cases id <;> rfl
  have rests : ((({ s.asm with truncating := false } : Assembler).image id).isEmpty
      && decide (({ s.asm with truncating := false } : Assembler).column = 0)) = true := by
    rw [image, isEmpty, Bool.true_and]
    exact decide_eq_true column
  simp only [State.takeCr, rests]
  rfl

theorem State.takeCr_closes {s : State} (id : ImageId) (sense : Sense)
    (h : (s.asm.image id).isEmpty = false ∨ s.asm.column ≠ 0) :
    s.takeCr id sense = (s.setAsm { s.asm with truncating := false, column := 0, crFlag := true }).closeImage id 0 sense := by
  have image : ({ s.asm with truncating := false } : Assembler).image id = s.asm.image id := by cases id <;> rfl
  have open_ : ((({ s.asm with truncating := false } : Assembler).image id).isEmpty
      && decide (({ s.asm with truncating := false } : Assembler).column = 0)) = false := by
    rcases h with h | h
    · rw [image, h, Bool.false_and]
    · rw [decide_eq_false h, Bool.and_false]
  simp only [State.takeCr, open_]
  rfl

/-! ## Rendering -/

theorem getLsbD_span (lo n p : Nat) : (span lo n).getLsbD p = decide (p < 480 ∧ lo ≤ p ∧ p < lo + n) := by
  have bit : ((2 ^ n - 1) * 2 ^ lo).testBit p = decide (lo ≤ p ∧ p < lo + n) := by
    rw [Nat.testBit_mul_two_pow, Nat.testBit_two_pow_sub_one]
    by_cases low : lo ≤ p
    · simp only [low, decide_true, Bool.true_and, true_and, decide_eq_decide]
      omega
    · simp [low]
  rw [span, BitVec.getLsbD_ofNat, bit]
  simp

/-- The head positions to a dot of a cell, by the width (R115). -/
def dotWidth (wide : Bool) : Nat := if wide then 2 else 1

/-- The head positions that a dot of a cell drives (R115). -/
def dotSpan (wide : Bool) (column k : Nat) : Dots :=
  if wide then span (12 * column + 2 * k) 2 else span (6 * column + k) 1

theorem getLsbD_dotSpan (wide : Bool) {column k p : Nat} (within : k < 6) (position : p < 480) :
    (dotSpan wide column k).getLsbD p
      = decide (p / (6 * dotWidth wide) = column ∧ p % (6 * dotWidth wide) / dotWidth wide = k) := by
  cases wide <;> simp only [dotSpan, dotWidth, if_true, Bool.false_eq_true, if_false, getLsbD_span, decide_eq_decide] <;> omega

theorem getLsbD_foldl_or (f : Nat → Bool) (d : Nat → Dots) (ks : List Nat) (acc : Dots) (p : Nat) :
    (ks.foldl (fun acc k => if f k then acc ||| d k else acc) acc).getLsbD p
      = (acc.getLsbD p || ks.any fun k => f k && (d k).getLsbD p) := by
  induction ks generalizing acc with
  | nil => simp
  | cons k rest ih =>
    rw [List.foldl_cons, ih, List.any_cons]
    cases f k <;> simp [Bool.or_assoc]

theorem ImageCell.getLsbD_rowDots (c : ImageCell) (wide : Bool) (column row : Nat) {p : Nat} (position : p < 480) :
    (c.rowDots wide column row).getLsbD p
      = (decide (p / (6 * dotWidth wide) = column) && c.dot row (p % (6 * dotWidth wide) / dotWidth wide)) := by
  have own : p % (6 * dotWidth wide) / dotWidth wide < 6 := by
    cases wide <;> simp only [dotWidth, if_true, Bool.false_eq_true, if_false] <;> omega
  have bits := getLsbD_foldl_or (fun k => c.dot row k) (dotSpan wide column) (List.range 6) 0 p
  rw [show c.rowDots wide column row = _ from rfl]
  refine bits.trans ?_
  rw [show BitVec.getLsbD (0 : Dots) p = false from BitVec.getLsbD_zero, Bool.false_or, Bool.eq_iff_iff, List.any_eq_true]
  simp only [List.mem_range, Bool.and_eq_true, decide_eq_true_eq]
  constructor
  · rintro ⟨k, within, on, drives⟩
    rw [getLsbD_dotSpan wide within position, decide_eq_true_eq] at drives
    exact ⟨drives.1, drives.2 ▸ on⟩
  · rintro ⟨here, on⟩
    exact ⟨_, own, on, by rw [getLsbD_dotSpan wide own position]; simp [here]⟩

theorem getLsbD_renderFrom (wide : Bool) (row : Nat) (cells : List ImageCell) (first : Nat) {p : Nat} (position : p < 480) :
    (renderFrom wide row first cells).getLsbD p
      = (decide (first ≤ p / (6 * dotWidth wide))
          && (cells[p / (6 * dotWidth wide) - first]?).any (·.dot row (p % (6 * dotWidth wide) / dotWidth wide))) := by
  induction cells generalizing first with
  | nil => simp [renderFrom]
  | cons c rest ih =>
    rw [renderFrom, BitVec.getLsbD_or, ih, c.getLsbD_rowDots wide first row position]
    generalize p / (6 * dotWidth wide) = column
    rcases Nat.lt_trichotomy column first with before | rfl | after
    · have : ¬ column = first := by omega
      have : ¬ first ≤ column := by omega
      have : ¬ first + 1 ≤ column := by omega
      simp [*]
    · have : ¬ column + 1 ≤ column := by omega
      simp [this]
    · have : ¬ column = first := by omega
      have below : first ≤ column := by omega
      have next : first + 1 ≤ column := after
      rw [show column - first = column - (first + 1) + 1 by omega, List.getElem?_cons_succ]
      simp [this, below, next]

theorem Image.getLsbD_render {i : Image} {row column k p : Nat} {cell : ImageCell} (at_ : i.cells[column]? = some cell)
    (position : p < 480) (own : p / (6 * dotWidth i.wide) = column) (dot : p % (6 * dotWidth i.wide) / dotWidth i.wide = k) :
    (i.render row).getLsbD p = cell.dot row k := by
  rw [Image.render, getLsbD_renderFrom i.wide row i.cells 0 position, own, dot, Nat.sub_zero, at_]
  simp

/-! ## The glyph ROM -/

theorem Glyph.dot_blank (g : Glyph) {row k : Nat} (h : 5 ≤ k ∨ 9 ≤ row) : g.dot row k = false := by
  by_cases column : 5 ≤ k
  · simp [Glyph.dot, column]
  · have low : 9 ≤ row := h.resolve_left column
    have r6 : ¬ row ≤ 6 := by omega
    have r8 : ¬ row ≤ 8 := by omega
    have is6 : ¬ row = 6 := by omega
    cases g with
    | printable code => simp [Glyph.dot, r6, r8, is6]
    | _ => simp [Glyph.dot, r6, r8]

theorem hasDescender_iff (code : Byte) :
    hasDescender code = true ↔ code = 0x67 ∨ code = 0x6A ∨ code = 0x70 ∨ code = 0x71 ∨ code = 0x79 := by
  simp [hasDescender, or_assoc]

/-- The rows above a descending pattern are blank (R117). -/
theorem Glyph.dot_descender {code : Byte} (h : hasDescender code = true) {row : Nat} (top : row < 2) (k : Nat) :
    (Glyph.printable code).dot row k = false := by
  have above : ¬ 2 ≤ row := by omega
  have not20 : code ≠ 0x20#8 := by rintro rfl; exact absurd h (by decide)
  have not5F : code ≠ 0x5F#8 := by rintro rfl; exact absurd h (by decide)
  simp [Glyph.dot, not20, not5F, h, above]

/-- The rows below any other pattern are blank (R117). -/
theorem Glyph.dot_upright {code : Byte} (h : hasDescender code = false) {row : Nat} (bottom : 7 ≤ row) (k : Nat) :
    (Glyph.printable code).dot row k = false := by
  have below : ¬ row ≤ 6 := by omega
  have is6 : ¬ row = 6 := by omega
  simp [Glyph.dot, h, below, is6]

theorem Glyph.dot_named {k : Nat} (row : Nat) (h : k < 5) :
    Glyph.error.dot row k = decide (row ≤ 6 ∧ (row + k) % 2 = 0)
      ∧ Glyph.lost.dot row k = decide (k = 2 ∧ row ≤ 6 ∧ row ≠ 3)
      ∧ Glyph.lineBreak.dot row k = decide (row ≤ 8)
      ∧ (Glyph.printable 0x20).dot row k = false
      ∧ (Glyph.printable 0x5F).dot row k = decide (row = 6) := by
  have within : ¬ 5 ≤ k := by omega
  refine ⟨?_, ?_, ?_, ?_, ?_⟩ <;> simp [Glyph.dot, within, Bool.and_assoc]

/-! ## O36 -/

theorem lowCode_of_low (strip : Bool) {code : Byte} (low : code.toNat < 0x80) : lowCode strip { code := code } = code :=
  if_neg fun h => absurd h.2 (by simpa using low)

/-- A code below 80h without a flag acts by its code alone (R103). -/
theorem State.handleCell_code (s : State) (id : ImageId) {code : Byte} (low : code.toNat < 0x80) (sense : Sense) :
    s.handleCell id { code := code } sense = s.actOn id (codeAction code) sense := by
  have high : ¬ 0x80 ≤ code.toNat := by omega
  rw [State.handleCell_plain (s := s) id { code := code } sense rfl, cellAction_eq, lowCode_of_low _ low]
  simp [high]

/-- A placement that strikes its cell by `f`: `placeAt id g` is the one that strikes by `g`. -/
def State.struckBy (s : State) (id : ImageId) (f : ImageCell → ImageCell) : State :=
  s.setAsm { s.asm.setImage id { s.asm.image id with cells := (s.asm.image id).cells.modify s.asm.column f } with
    column := s.asm.column + 1, crFlag := false }

/-- Settles O36: a cell by its class, a placement by the truncating flag, the width and the overflow rule, and rendering by the
position a dot drives. -/
theorem cellsPlaced : Obligations.CellsPlaced := by
  refine ⟨fun s id sense => ?_, fun i row column k cell at_ within => ⟨fun narrow col => ?_, fun wide col => ?_⟩, fun row k => ?_⟩
  · intro width low shows struck truncates wraps take ended l
    have showsIff (c : Cell) (g : Glyph) : shows c g ↔ cellAction s.msg.setup.strip c = .glyph g := shows_iff _ c g
    have struckEq (g : Glyph) : struck g = s.setAsm (s.asm.placeAt id g) := by
      refine congrArg (s.struckBy id) (funext fun old => ?_)
      by_cases space : g = .printable 0x20
      · refine (if_pos space).trans ?_
        rw [space, old.strike_space]
      · refine (if_neg space).trans ?_
        cases old <;> simp [ImageCell.strike, Glyph.isSpace_eq_false space]
    have shown {c : Cell} {g : Glyph} (plain : c.lostBefore = false) (h : shows c g) :
        s.handleCell id c sense = s.placeOrWrap id g sense := by
      rw [State.handleCell_plain id c sense plain, (showsIff c g).1 h]
      rfl
    have code (n : Byte) (h : n.toNat < 0x80) : take n = s.actOn id (codeAction n) sense := s.handleCell_code id h sense
    have tab : take 0x09 = s.takeHt id sense := code 0x09 (by decide)
    refine ⟨fun c => ?_, fun c g plain h open_ => ⟨fun room => ?_, fun full rule => ?_, fun full rule => ?_⟩, fun n h other => ?_,
      code 0x07 (by decide), code 0x08 (by decide), fun room => ?_, fun cr => ?_, fun cr => ?_, fun zero => ?_, fun pos => ?_,
      fun isEmpty start => ?_, fun used => ?_, fun beyond => ⟨fun rule => ?_, fun rule => ?_⟩,
      fun truncating c => ⟨?_, fun g h => ?_⟩, fun open_ c lost => ?_⟩
    · have act : cellAction s.msg.setup.strip { c with code := low c, noise := false } = cellAction s.msg.setup.strip c :=
        cellAction_low s.msg.setup.strip c
      simp only [State.handleCell, act]
    · rw [shown plain h, State.placeOrWrap, State.place_within id g open_ room, struckEq]
    · rw [shown plain h, State.placeOrWrap, State.place_truncated id g open_ full rule]
    · rw [shown plain h, State.placeOrWrap, State.place_overflow id g open_ full rule]
      rfl
    · have small : n.toNat < 0x80 := by
        rcases h with h | rfl
        · omega
        · decide
      rw [code n small, codeAction_ignored h other]
      rfl
    · rw [tab, State.takeHt, nextTab_eq, if_pos room]
    · refine (code 0x0A (by decide)).trans ?_
      exact if_pos cr
    · refine (code 0x0A (by decide)).trans ?_
      exact if_neg (by simp [cr])
    · have blanks : s.formFeedBlanks = 1 := if_pos zero
      rw [← blanks]
      exact code 0x0C (by decide)
    · have blanks : s.formFeedBlanks = l - 1 - (s.asm.formPosition + s.asm.committed) % l := if_neg pos
      rw [← blanks]
      exact code 0x0C (by decide)
    · exact (code 0x0D (by decide)).trans (State.takeCr_empty id sense isEmpty start)
    · exact (code 0x0D (by decide)).trans (State.takeCr_closes id sense used)
    · rw [tab, State.takeHt, nextTab_eq, if_neg (Nat.not_le.2 beyond), if_pos rule]
    · rw [tab, State.takeHt, nextTab_eq, if_neg (Nat.not_le.2 beyond), if_neg (by simp [rule])]
    · cases lost : c.lostBefore with
      | false => rw [← lost]
      | true =>
        have goesOn := State.handleCell_lost_goesOn id c sense lost (State.place_dropped id .lost truncating)
        exact goesOn.trans (State.handleCell_plain id { c with lostBefore := false } sense rfl).symm
    · have same : s.handleCell id c sense = s.placeOrWrap id g sense := by
        have act := (showsIff c g).1 h
        cases lost : c.lostBefore with
        | false => exact shown lost h
        | true =>
          rw [State.handleCell_lost_goesOn id c sense lost (State.place_dropped id .lost truncating), act]
          rfl
      rw [same, State.placeOrWrap, State.place_dropped id g truncating]
    · intro plain
      have goesOn {v : State} (setup : v.msg.setup = s.msg.setup) (placed : s.place id .lost = (v, .goesOn)) :
          s.handleCell id c sense = v.handleCell id plain sense := by
        refine (State.handleCell_lost_goesOn id c sense lost placed).trans ?_
        rw [← setup]
        exact (State.handleCell_plain id plain sense rfl).symm
      refine ⟨fun room => ?_, fun full rule => ?_, fun full rule => ?_⟩
      · rw [struckEq]
        exact goesOn rfl (State.place_within id .lost open_ room)
      · exact goesOn rfl (State.place_truncated id .lost open_ full rule)
      · have overflows := State.handleCell_lost_overflow id c sense lost (State.place_overflow id .lost open_ full rule)
        refine ⟨fun g h => ?_, fun none => ?_⟩
        · rw [overflows, (showsIff c g).1 h]
          rfl
        · rw [overflows, carriedWith_of_not_glyph fun g h => none g ((showsIff c g).2 h)]
          rfl
  · refine Image.getLsbD_render at_ (by omega) ?_ ?_ <;> rw [narrow, dotWidth, if_neg Bool.false_ne_true] <;> omega
  · constructor <;> refine Image.getLsbD_render at_ (by omega) ?_ ?_ <;> rw [wide, dotWidth, if_pos rfl] <;> omega
  · refine ⟨fun p q => ⟨rfl, rfl, rfl⟩, fun g h => g.dot_blank h, fun h => Glyph.dot_named row h, fun code => ⟨fun h top => ?_,
      fun h67 h6A h70 h71 h79 bottom => ?_⟩⟩
    · exact Glyph.dot_descender ((hasDescender_iff code).2 h) top k
    · exact Glyph.dot_upright (Bool.eq_false_iff.2 fun h => by
        rcases (hasDescender_iff code).1 h with h | h | h | h | h <;> contradiction) bottom k

end Sys2Proof.Machine

/-! PROOFS. The packing of a dot line into bursts (R127, R128). -/

namespace Sys2Proof.Machine

/-! ## Dots counted -/

theorem dotsFrom_add (d : Dots) (lo m n : Nat) : dotsFrom d lo (m + n) = dotsFrom d lo m + dotsFrom d (lo + m) n := by
  induction m generalizing lo with
  | zero => simp [dotsFrom]
  | succ m ih =>
    rw [Nat.add_right_comm, dotsFrom, dotsFrom, ih (lo + 1), Nat.add_assoc lo 1 m, Nat.add_comm 1 m, Nat.add_assoc]

theorem dotsFrom_congr {d e : Dots} {lo n : Nat} (h : ∀ p, lo ≤ p → p < lo + n → d.getLsbD p = e.getLsbD p) :
    dotsFrom d lo n = dotsFrom e lo n := by
  induction n generalizing lo with
  | zero => rfl
  | succ n ih =>
    rw [dotsFrom, dotsFrom, h lo (Nat.le_refl _) (by omega), ih fun p low high => h p (by omega) (by omega)]

theorem dotsFrom_zero (lo n : Nat) : dotsFrom 0 lo n = 0 := by
  induction n generalizing lo with
  | zero => rfl
  | succ n ih =>
    rw [dotsFrom, ih, show BitVec.getLsbD (0 : Dots) lo = false from BitVec.getLsbD_zero]
    rfl

theorem dotsFrom_eq_zero_iff (d : Dots) (lo n : Nat) :
    dotsFrom d lo n = 0 ↔ ∀ p, lo ≤ p → p < lo + n → d.getLsbD p = false := by
  constructor
  · induction n generalizing lo with
    | zero => intros; omega
    | succ n ih =>
      intro none p low high
      rw [dotsFrom, Nat.add_eq_zero_iff] at none
      obtain ⟨first, rest⟩ := none
      by_cases here : p = lo
      · subst here
        simpa using first
      · exact ih (lo + 1) rest p (by omega) (by omega)
  · intro off
    rw [dotsFrom_congr (e := 0) fun p low high => (off p low high).trans BitVec.getLsbD_zero.symm, dotsFrom_zero]

/-- Bits at one position, as Booleans: what disjoint dots say there. -/
theorem Dots.and_eq_zero_iff (a b : Dots) : a &&& b = 0 ↔ ∀ p, (a.getLsbD p && b.getLsbD p) = false := by
  constructor
  · intro h p
    rw [← BitVec.getLsbD_and, h]
    exact BitVec.getLsbD_zero
  · intro h
    refine BitVec.eq_of_getLsbD_eq fun p _ => ?_
    rw [BitVec.getLsbD_and, h]
    exact BitVec.getLsbD_zero.symm

/-! ## A part of the head -/

theorem getLsbD_partDots (pattern : Dots) (lo n p : Nat) :
    (partDots pattern lo n).getLsbD p = (pattern.getLsbD p && decide (lo ≤ p ∧ p < lo + n)) := by
  rw [partDots, BitVec.getLsbD_and, getLsbD_span]
  by_cases position : p < 480
  · simp [position]
  · simp [BitVec.getLsbD_of_ge pattern p (by omega)]

theorem partDots_add (pattern : Dots) (lo m n : Nat) :
    partDots pattern lo (m + n) = partDots pattern lo m ||| partDots pattern (lo + m) n := by
  refine BitVec.eq_of_getLsbD_eq fun p _ => ?_
  rw [BitVec.getLsbD_or, getLsbD_partDots, getLsbD_partDots, getLsbD_partDots, ← Bool.and_or_distrib_left, ← Bool.decide_or]
  congr 2
  exact propext (by omega)

theorem partDots_disjoint (pattern : Dots) {lo m lo' n : Nat} (apart : lo + m ≤ lo') :
    partDots pattern lo m &&& partDots pattern lo' n = 0 := by
  refine (Dots.and_eq_zero_iff _ _).2 fun p => ?_
  rw [getLsbD_partDots, getLsbD_partDots]
  by_cases before : p < lo + m
  · simp [show ¬ lo' ≤ p by omega]
  · simp [before]

theorem partDots_whole (pattern : Dots) : partDots pattern 0 480 = pattern := by
  refine BitVec.eq_of_getLsbD_eq fun p position => ?_
  rw [getLsbD_partDots, decide_eq_true ⟨Nat.zero_le p, by omega⟩, Bool.and_true]

theorem dotsFrom_partDots (pattern : Dots) {lo n : Nat} (within : lo + n ≤ 480) :
    dotsFrom (partDots pattern lo n) 0 480 = dotsFrom pattern lo n := by
  have bit := getLsbD_partDots pattern lo n
  have before : dotsFrom (partDots pattern lo n) 0 lo = 0 :=
    (dotsFrom_eq_zero_iff _ _ _).2 fun p _ high => by simp [bit, show ¬ lo ≤ p by omega]
  have after : dotsFrom (partDots pattern lo n) (lo + n) (480 - (lo + n)) = 0 :=
    (dotsFrom_eq_zero_iff _ _ _).2 fun p low _ => by simp [bit, show ¬ p < lo + n by omega]
  have own : dotsFrom (partDots pattern lo n) lo n = dotsFrom pattern lo n :=
    dotsFrom_congr fun p low high => by simp [bit, low, high]
  rw [show 480 = lo + n + (480 - (lo + n)) by omega, dotsFrom_add, dotsFrom_add, Nat.zero_add, Nat.zero_add, before, own, after]
  omega

theorem partDots_eq_zero_iff (pattern : Dots) (lo n : Nat) : partDots pattern lo n = 0 ↔ dotsFrom pattern lo n = 0 := by
  rw [dotsFrom_eq_zero_iff]
  constructor
  · intro none p low high
    have := getLsbD_partDots pattern lo n p
    rw [none] at this
    simpa [low, high] using this.symm.trans BitVec.getLsbD_zero
  · intro off
    refine BitVec.eq_of_getLsbD_eq fun p _ => ?_
    rw [getLsbD_partDots]
    by_cases inside : lo ≤ p ∧ p < lo + n
    · rw [off p inside.1 inside.2]
      exact BitVec.getLsbD_zero.symm
    · rw [decide_eq_false inside, Bool.and_false]
      exact BitVec.getLsbD_zero.symm

/-! ## Bursts that make up some dots -/

/-- The bursts together are these dots, no dot is in two of them, none is empty, and none draws more than the budget. -/
structure Packs (current budget : Nat) (dots : Dots) (bursts : List Dots) : Prop where
  union : bursts.foldl (· ||| ·) 0 = dots
  disjoint : bursts.Pairwise (fun a b => a &&& b = 0)
  each : ∀ b ∈ bursts, b ≠ 0 ∧ dotsFrom b 0 480 * current ≤ budget

theorem foldl_or_eq (a : Dots) (bursts : List Dots) :
    bursts.foldl (· ||| ·) a = a ||| bursts.foldl (· ||| ·) 0 := by
  induction bursts generalizing a with
  | nil => exact BitVec.or_zero.symm
  | cons b rest ih =>
    rw [List.foldl_cons, List.foldl_cons, ih (a ||| b), ih (0 ||| b), show (0 : Dots) ||| b = b from BitVec.zero_or, BitVec.or_assoc]

theorem getLsbD_foldl_of_mem {bursts : List Dots} {b : Dots} (mem : b ∈ bursts) {p : Nat} (on : b.getLsbD p = true) :
    (bursts.foldl (· ||| ·) 0).getLsbD p = true := by
  induction bursts with
  | nil => exact absurd mem List.not_mem_nil
  | cons c rest ih =>
    rw [List.foldl_cons, foldl_or_eq, BitVec.getLsbD_or, BitVec.getLsbD_or, Bool.or_eq_true, Bool.or_eq_true]
    rcases List.mem_cons.1 mem with rfl | mem
    · exact .inl (.inr on)
    · exact .inr (ih mem)

section Packs

variable {current budget : Nat}

theorem Packs.nil : Packs current budget 0 [] := ⟨rfl, .nil, by simp⟩

theorem Packs.single {b : Dots} (used : b ≠ 0) (fits : dotsFrom b 0 480 * current ≤ budget) : Packs current budget b [b] :=
  ⟨BitVec.zero_or, List.pairwise_singleton _ b, by simpa using ⟨used, fits⟩⟩

theorem Packs.append {p q : Dots} {bs cs : List Dots} (first : Packs current budget p bs) (second : Packs current budget q cs)
    (apart : p &&& q = 0) : Packs current budget (p ||| q) (bs ++ cs) := by
  refine ⟨?_, List.pairwise_append.2 ⟨first.disjoint, second.disjoint, fun b hb c hc => ?_⟩, fun b mem => ?_⟩
  · rw [List.foldl_append, first.union, foldl_or_eq, second.union]
  · refine (Dots.and_eq_zero_iff b c).2 fun position => ?_
    have both := (Dots.and_eq_zero_iff p q).1 apart position
    rw [← first.union, ← second.union] at both
    refine Bool.eq_false_iff.2 fun on => ?_
    obtain ⟨onB, onC⟩ := Bool.and_eq_true_iff.1 on
    rw [getLsbD_foldl_of_mem hb onB, getLsbD_foldl_of_mem hc onC] at both
    exact absurd both (by decide)
  · rcases List.mem_append.1 mem with mem | mem
    · exact first.each b mem
    · exact second.each b mem

/-- Two neighbouring parts packed one after the other. -/
theorem Packs.join {pattern : Dots} {lo m n : Nat} {bs cs : List Dots} (first : Packs current budget (partDots pattern lo m) bs)
    (second : Packs current budget (partDots pattern (lo + m) n) cs) :
    Packs current budget (partDots pattern lo (m + n)) (bs ++ cs) := by
  rw [partDots_add]
  exact first.append second (partDots_disjoint pattern (Nat.le_refl _))

theorem Packs.part_empty {pattern : Dots} {lo n : Nat} (none : dotsFrom pattern lo n = 0) :
    Packs current budget (partDots pattern lo n) [] := by
  rw [(partDots_eq_zero_iff pattern lo n).2 none]
  exact .nil

theorem Packs.part_single {pattern : Dots} {lo n : Nat} (within : lo + n ≤ 480) (used : dotsFrom pattern lo n ≠ 0)
    (fits : dotsFrom pattern lo n * current ≤ budget) : Packs current budget (partDots pattern lo n) [partDots pattern lo n] :=
  .single (fun none => used ((partDots_eq_zero_iff pattern lo n).1 none)) (by rwa [dotsFrom_partDots pattern within])

/-! ## Quarters, halves and groups -/

variable {pattern : Dots} {lo : Nat} {bs : List Dots}

theorem packQuarter_packs (within : lo + 15 ≤ 480) (h : packQuarter current budget pattern lo = some bs) :
    Packs current budget (partDots pattern lo 15) bs := by
  simp only [packQuarter] at h
  split at h
  next none =>
    cases h
    exact .part_empty none
  next used =>
    split at h
    next fits =>
      cases h
      exact .part_single within used fits
    next => cases h

theorem packQuarter_none_iff :
    packQuarter current budget pattern lo = none ↔ budget < dotsFrom pattern lo 15 * current := by
  simp only [packQuarter]
  split
  next none => simp [none]
  next used =>
    split
    next fits => simpa using fits
    next exceeds => simpa using exceeds

theorem packHalf_packs (within : lo + 30 ≤ 480) (h : packHalf current budget pattern lo = some bs) :
    Packs current budget (partDots pattern lo 30) bs := by
  simp only [packHalf] at h
  split at h
  next none =>
    cases h
    exact .part_empty none
  next used =>
    split at h
    next fits =>
      cases h
      exact .part_single within used fits
    next =>
      split at h
      next a b first second =>
        cases h
        exact (packQuarter_packs (by omega) first).join (n := 15) (packQuarter_packs (by omega) second)
      next => cases h

theorem packHalf_none_iff : packHalf current budget pattern lo = none ↔
    budget < dotsFrom pattern lo 15 * current ∨ budget < dotsFrom pattern (lo + 15) 15 * current := by
  have halves := congrArg (· * current) (dotsFrom_add pattern lo 15 15)
  simp only [Nat.add_mul, Nat.reduceAdd] at halves
  rw [← packQuarter_none_iff, ← packQuarter_none_iff]
  simp only [packHalf]
  split
  next none =>
    rw [packQuarter_none_iff, packQuarter_none_iff]
    simp only [none] at halves
    simp
    omega
  next used =>
    split
    next fits =>
      rw [packQuarter_none_iff, packQuarter_none_iff]
      simp
      omega
    next =>
      cases packQuarter current budget pattern lo <;> cases packQuarter current budget pattern (lo + 15) <;> simp

theorem splitGroup_packs (within : lo + 60 ≤ 480) (h : splitGroup current budget pattern lo = some bs) :
    Packs current budget (partDots pattern lo 60) bs := by
  unfold splitGroup at h
  split at h
  next a b first second =>
    cases h
    exact (packHalf_packs (by omega) first).join (n := 30) (packHalf_packs (by omega) second)
  next => cases h

theorem splitGroup_none_iff :
    splitGroup current budget pattern lo = none ↔ ∃ q < 4, budget < dotsFrom pattern (lo + 15 * q) 15 * current := by
  have quarters : (∃ q < 4, budget < dotsFrom pattern (lo + 15 * q) 15 * current) ↔
      packHalf current budget pattern lo = none ∨ packHalf current budget pattern (lo + 30) = none := by
    rw [packHalf_none_iff, packHalf_none_iff]
    constructor
    · rintro ⟨q, small, exceeds⟩
      obtain rfl | rfl | rfl | rfl : q = 0 ∨ q = 1 ∨ q = 2 ∨ q = 3 := by omega
      · exact .inl (.inl exceeds)
      · exact .inl (.inr exceeds)
      · exact .inr (.inl exceeds)
      · exact .inr (.inr exceeds)
    · rintro ((exceeds | exceeds) | exceeds | exceeds)
      · exact ⟨0, by omega, exceeds⟩
      · exact ⟨1, by omega, exceeds⟩
      · exact ⟨2, by omega, exceeds⟩
      · exact ⟨3, by omega, exceeds⟩
  rw [quarters]
  unfold splitGroup
  cases packHalf current budget pattern lo <;> cases packHalf current budget pattern (lo + 30) <;> simp

/-- A group within the budget has no quarter beyond it. -/
theorem not_quarter_exceeds (fits : dotsFrom pattern lo 60 * current ≤ budget) :
    ¬ ∃ q < 4, budget < dotsFrom pattern (lo + 15 * q) 15 * current := by
  rintro ⟨q, small, exceeds⟩
  have parts : dotsFrom pattern lo 60 = dotsFrom pattern lo (15 * q) + dotsFrom pattern (lo + 15 * q) 15
      + dotsFrom pattern (lo + (15 * q + 15)) (60 - (15 * q + 15)) := by
    rw [← dotsFrom_add, ← dotsFrom_add]
    congr 1
    omega
  have := Nat.mul_le_mul_right current (show dotsFrom pattern (lo + 15 * q) 15 ≤ dotsFrom pattern lo 60 by omega)
  omega

end Packs

/-! ## The scan of the groups -/

/-- The bursts made, with the one that is open behind them. -/
def closedBursts (opened : Dots) (made : List Dots) : List Dots := if opened = 0 then made else made ++ [opened]

section Scan

variable {current budget : Nat} {pattern opened : Dots} {n lo sum : Nat} {made : List Dots}

/-! One group of the scan: without on dots, joined to the open burst, a burst of its own, or split. -/

theorem packGroups_skip (none : dotsFrom pattern lo 60 = 0) :
    packGroups current budget pattern (n + 1) lo opened sum made = packGroups current budget pattern n (lo + 60) opened sum made := by
  simp [packGroups, none]

theorem packGroups_join (used : dotsFrom pattern lo 60 ≠ 0)
    (fits : opened ≠ 0 ∧ sum + dotsFrom pattern lo 60 * current ≤ budget) :
    packGroups current budget pattern (n + 1) lo opened sum made
      = packGroups current budget pattern n (lo + 60) (opened ||| partDots pattern lo 60)
          (sum + dotsFrom pattern lo 60 * current) made := by
  simp only [packGroups, if_neg used, if_pos fits]

theorem packGroups_start (used : dotsFrom pattern lo 60 ≠ 0)
    (full : ¬ (opened ≠ 0 ∧ sum + dotsFrom pattern lo 60 * current ≤ budget))
    (fits : dotsFrom pattern lo 60 * current ≤ budget) :
    packGroups current budget pattern (n + 1) lo opened sum made
      = packGroups current budget pattern n (lo + 60) (partDots pattern lo 60) (dotsFrom pattern lo 60 * current)
          (closedBursts opened made) := by
  simp only [packGroups, if_neg used, if_neg full, if_pos fits, closedBursts]

theorem packGroups_split {parts : List Dots} (exceeds : ¬ dotsFrom pattern lo 60 * current ≤ budget)
    (split : splitGroup current budget pattern lo = some parts) :
    packGroups current budget pattern (n + 1) lo opened sum made
      = packGroups current budget pattern n (lo + 60) 0 0 (closedBursts opened made ++ parts) := by
  have used : dotsFrom pattern lo 60 ≠ 0 := fun none => exceeds (by simp [none])
  have full : ¬ (opened ≠ 0 ∧ sum + dotsFrom pattern lo 60 * current ≤ budget) := fun h => exceeds (by omega)
  simp only [packGroups, if_neg used, if_neg full, if_neg exceeds, split, closedBursts]

theorem packGroups_fails (exceeds : ¬ dotsFrom pattern lo 60 * current ≤ budget)
    (split : splitGroup current budget pattern lo = none) :
    packGroups current budget pattern (n + 1) lo opened sum made = none := by
  have used : dotsFrom pattern lo 60 ≠ 0 := fun none => exceeds (by simp [none])
  have full : ¬ (opened ≠ 0 ∧ sum + dotsFrom pattern lo 60 * current ≤ budget) := fun h => exceeds (by omega)
  simp only [packGroups, if_neg used, if_neg full, if_neg exceeds, split]

end Scan

/-- The scan at position `first + n`: the bursts made pack what is left of `first`, and the open one is the `n` positions from
there, with what it draws. -/
structure Scanned (current budget : Nat) (pattern : Dots) (first n : Nat) (opened : Dots) (sum : Nat) (made : List Dots) : Prop where
  packs : Packs current budget (partDots pattern 0 first) made
  opened_eq : opened = partDots pattern first n
  draws : sum = dotsFrom pattern first n * current
  fits : sum ≤ budget

section Scanned

variable {current budget : Nat} {pattern opened : Dots} {first n sum : Nat} {made : List Dots}

theorem Scanned.closed (within : first + n ≤ 480) (inv : Scanned current budget pattern first n opened sum made) :
    Packs current budget (partDots pattern 0 (first + n)) (closedBursts opened made) := by
  obtain ⟨packs, rfl, rfl, fits⟩ := inv
  unfold closedBursts
  split
  next none =>
    rw [partDots_add, Nat.zero_add, none, show ∀ d : Dots, d ||| 0 = d from fun d => BitVec.or_zero]
    exact packs
  next some_ =>
    have used : dotsFrom pattern first n ≠ 0 := fun none => some_ ((partDots_eq_zero_iff pattern first n).2 none)
    exact packs.join (by rw [Nat.zero_add]; exact .part_single within used fits)

theorem Scanned.skip (inv : Scanned current budget pattern first n opened sum made) (none : dotsFrom pattern (first + n) 60 = 0) :
    Scanned current budget pattern first (n + 60) opened sum made := by
  obtain ⟨packs, rfl, rfl, fits⟩ := inv
  refine ⟨packs, ?_, by rw [dotsFrom_add, none, Nat.add_zero], fits⟩
  rw [partDots_add, (partDots_eq_zero_iff pattern (first + n) 60).2 none]
  exact BitVec.or_zero.symm

theorem Scanned.join (inv : Scanned current budget pattern first n opened sum made)
    (room : sum + dotsFrom pattern (first + n) 60 * current ≤ budget) :
    Scanned current budget pattern first (n + 60) (opened ||| partDots pattern (first + n) 60)
      (sum + dotsFrom pattern (first + n) 60 * current) made := by
  obtain ⟨packs, rfl, rfl, fits⟩ := inv
  exact ⟨packs, (partDots_add pattern first n 60).symm, by rw [dotsFrom_add, Nat.add_mul], room⟩

/-- A burst opened where the one before it closed. -/
theorem Packs.scanned (packs : Packs current budget (partDots pattern 0 first) made)
    (fits : dotsFrom pattern first n * current ≤ budget) :
    Scanned current budget pattern first n (partDots pattern first n) (dotsFrom pattern first n * current) made :=
  ⟨packs, rfl, rfl, fits⟩

theorem Packs.scanned_none (packs : Packs current budget (partDots pattern 0 first) made) :
    Scanned current budget pattern first 0 0 0 made :=
  ⟨packs, ((partDots_eq_zero_iff pattern first 0).2 rfl).symm, (Nat.zero_mul _).symm, Nat.zero_le _⟩

end Scanned

theorem packGroups_packs {current budget : Nat} {pattern : Dots} {groups first n : Nat} {opened : Dots} {sum : Nat}
    {made bs : List Dots} (left : first + n + 60 * groups = 480) (inv : Scanned current budget pattern first n opened sum made)
    (h : packGroups current budget pattern groups (first + n) opened sum made = some bs) : Packs current budget pattern bs := by
  induction groups generalizing first n opened sum made with
  | zero =>
    obtain rfl : closedBursts opened made = bs := Option.some.inj h
    have packs := inv.closed (by omega)
    rwa [show first + n = 480 by omega, partDots_whole] at packs
  | succ groups ih =>
    by_cases none : dotsFrom pattern (first + n) 60 = 0
    · rw [packGroups_skip none] at h
      exact ih (by omega) (inv.skip none) h
    by_cases joins : opened ≠ 0 ∧ sum + dotsFrom pattern (first + n) 60 * current ≤ budget
    · rw [packGroups_join none joins] at h
      exact ih (by omega) (inv.join joins.2) h
    have closed := inv.closed (by omega)
    by_cases fits : dotsFrom pattern (first + n) 60 * current ≤ budget
    · rw [packGroups_start none joins fits] at h
      exact ih (by omega) (closed.scanned fits) h
    · cases split : splitGroup current budget pattern (first + n) with
      | none =>
        rw [packGroups_fails fits split] at h
        cases h
      | some parts =>
        rw [packGroups_split fits split] at h
        have parts := closed.join (by rw [Nat.zero_add]; exact splitGroup_packs (by omega) split)
        exact ih (n := 0) (by omega) parts.scanned_none h

theorem packGroups_none_iff {current budget : Nat} {pattern : Dots} {n lo : Nat} {opened : Dots} {sum : Nat} {made : List Dots} :
    packGroups current budget pattern n lo opened sum made = none
      ↔ ∃ q < 4 * n, budget < dotsFrom pattern (lo + 15 * q) 15 * current := by
  induction n generalizing lo opened sum made with
  | zero => simp [packGroups]
  | succ n ih =>
    have parts : (∃ q < 4 * (n + 1), budget < dotsFrom pattern (lo + 15 * q) 15 * current)
        ↔ (∃ q < 4, budget < dotsFrom pattern (lo + 15 * q) 15 * current)
          ∨ ∃ q < 4 * n, budget < dotsFrom pattern (lo + 60 + 15 * q) 15 * current := by
      constructor
      · rintro ⟨q, small, exceeds⟩
        by_cases first : q < 4
        · exact .inl ⟨q, first, exceeds⟩
        · refine .inr ⟨q - 4, by omega, ?_⟩
          rwa [show lo + 60 + 15 * (q - 4) = lo + 15 * q by omega]
      · rintro (⟨q, small, exceeds⟩ | ⟨q, small, exceeds⟩)
        · exact ⟨q, by omega, exceeds⟩
        · refine ⟨q + 4, by omega, ?_⟩
          rwa [show lo + 15 * (q + 4) = lo + 60 + 15 * q by omega]
    rw [parts]
    by_cases fits : dotsFrom pattern lo 60 * current ≤ budget
    · rw [or_iff_right (not_quarter_exceeds fits)]
      by_cases none : dotsFrom pattern lo 60 = 0
      · rw [packGroups_skip none]
        exact ih
      by_cases joins : opened ≠ 0 ∧ sum + dotsFrom pattern lo 60 * current ≤ budget
      · rw [packGroups_join none joins]
        exact ih
      · rw [packGroups_start none joins fits]
        exact ih
    · rw [← splitGroup_none_iff]
      cases split : splitGroup current budget pattern lo with
      | none => simp [packGroups_fails fits split]
      | some parts =>
        rw [packGroups_split fits split]
        simpa using ih

/-- Settles O39: the scan packs what it has passed, and fails where a group beyond the budget has a quarter beyond it. -/
theorem packingSound : Obligations.PackingSound := by
  intro current budget pattern
  refine ⟨fun bursts h => ?_, packGroups_none_iff.trans (by simp)⟩
  have start : Packs current budget (partDots pattern 0 0) [] := .part_empty rfl
  have packs := packGroups_packs rfl start.scanned_none h
  exact ⟨packs.union, packs.disjoint, packs.each⟩

end Sys2Proof.Machine

/-! PROOFS. The phases of a burst and the half-steps of the motor (R122, R123, R130, R132). -/

namespace Sys2Proof.Machine

/-! ## Classes of dots -/

theorem class0_or_class1 (b previous beforePrevious : Dots) :
    class0 b previous ||| class1 b previous beforePrevious = b &&& ~~~(previous &&& beforePrevious) := by
  refine BitVec.eq_of_getLsbD_eq fun p position => ?_
  simp only [class0, class1, BitVec.getLsbD_or, BitVec.getLsbD_and, BitVec.getLsbD_not, position, decide_true, Bool.true_and]
  cases b.getLsbD p <;> cases previous.getLsbD p <;> rfl

theorem getLsbD_groups (idle : Nat → Prop) [DecidablePred idle] (groups : List Nat) (acc : BitVec 8) {g : Nat} (h : g < 8) :
    (groups.foldl (fun acc k => if idle k then acc else acc ||| (1#8 <<< k)) acc).getLsbD g = true
      ↔ acc.getLsbD g = true ∨ g ∈ groups ∧ ¬ idle g := by
  induction groups generalizing acc with
  | nil => simp
  | cons k rest ih =>
    have bit : (1#8 <<< k).getLsbD g = true ↔ g = k := by
      simp only [BitVec.getLsbD_shiftLeft, BitVec.getLsbD_one, h, decide_true, Bool.true_and, Bool.and_eq_true,
        Bool.not_eq_true', decide_eq_true_eq, decide_eq_false_iff_not]
      omega
    rw [List.foldl_cons, ih, List.mem_cons]
    by_cases off : idle k
    · rw [if_pos off]
      constructor
      · exact fun h => h.imp_right fun ⟨mem, on⟩ => ⟨.inr mem, on⟩
      · rintro (on | ⟨rfl | mem, on⟩)
        · exact .inl on
        · exact absurd off on
        · exact .inr ⟨mem, on⟩
    · rw [if_neg off, BitVec.getLsbD_or, Bool.or_eq_true, bit]
      constructor
      · rintro ((on | rfl) | ⟨mem, on⟩)
        · exact .inl on
        · exact .inr ⟨.inl rfl, off⟩
        · exact .inr ⟨.inr mem, on⟩
      · rintro (on | ⟨rfl | mem, on⟩)
        · exact .inl (.inl on)
        · exact .inl (.inr rfl)
        · exact .inr ⟨mem, on⟩

theorem groupsOf_iff (b : Dots) {g : Nat} (h : g < 8) :
    (groupsOf b).getLsbD g = true ↔ ∃ i, 60 * g ≤ i ∧ i < 60 * g + 60 ∧ b.getLsbD i = true := by
  rw [groupsOf, getLsbD_groups (fun g => dotsFrom b (60 * g) 60 = 0) (List.range 8) 0 h, dotsFrom_eq_zero_iff]
  simp [h]

/-! ## Stages of a burst -/

section Stages

variable {s : State} {d : DotLine} {b : Dots} {rest : List Dots}

theorem execBurstPhaseEnd_of_stage (d_eq : s.eng.inProgress = some d) (stage : d.stage ≠ .advance) :
    exec .burstPhaseEnd s = .next ((s.advanceTo d.ends).nextPhase d) := by
  show execBurstPhaseEnd s = _
  simp [execBurstPhaseEnd, d_eq, stage]

theorem DotLine.nextBurst_last (bursts : d.bursts = [b]) :
    d.nextBurst = { d with bursts := [], stage := .advance, starting := true } := by simp [DotLine.nextBurst, bursts]

theorem DotLine.nextBurst_more {c : Dots} (bursts : d.bursts = b :: c :: rest) :
    d.nextBurst = { d with bursts := c :: rest, stage := .load, ends := d.ends + 240 } := by
  simp [DotLine.nextBurst, bursts, Config.loadTime]

end Stages

/-- Settles O40: the stages of a burst by its classes, and a half-step. -/
theorem dotLinePhases : Obligations.DotLinePhases := by
  refine ⟨fun s d b rest d_eq bursts used => ?_, fun s d d_eq stage steps => ?_, fun b g h => groupsOf_iff b h, rfl, rfl, rfl, rfl,
    rfl, rfl, rfl, rfl⟩
  · intro u cold warm heats burstDone
    have ends (moves : d.stage ≠ .advance) : exec .burstPhaseEnd s = .next (u.nextPhase d) := execBurstPhaseEnd_of_stage d_eq moves
    have head : d.bursts.headD 0 = b := by rw [bursts]; rfl
    have previous : u.eng.previous = s.eng.previous := by simp [u]
    have beforePrevious : u.eng.beforePrevious = s.eng.beforePrevious := by simp [u]
    have warmEq : class0 b u.eng.previous ||| class1 b u.eng.previous u.eng.beforePrevious = warm := by
      rw [class0_or_class1, previous, beforePrevious]
    have coldEq : class0 b u.eng.previous = cold := by rw [class0, previous]
    have next {d' : DotLine} {dots : Dots} (same : d.nextStage u.eng.previous u.eng.beforePrevious = d')
        (heated : d'.heated u.eng.previous u.eng.beforePrevious = dots) :
        u.nextPhase d = (u.setEng { u.eng with inProgress := some d' }).setPins
          { u.pins with strobes := d'.strobes, head := if dots = 0 then u.pins.head else dots } := by
      rw [State.nextPhase, same, heated]
    have done (moves : d.stage ≠ .advance) (passes : d.nextStage u.eng.previous u.eng.beforePrevious = d.nextBurst) : burstDone := by
      refine (ends moves).trans ?_
      cases rest with
      | nil => rw [next (passes.trans (d.nextBurst_last bursts)) rfl]; rfl
      | cons c rest => rw [next (passes.trans (d.nextBurst_more bursts)) rfl]; rfl
    have heat {stage : Stage} {us : Nat} {dots : Dots} (moves : d.stage ≠ .advance)
        (passes : d.nextStage u.eng.previous u.eng.beforePrevious = { d with stage := stage, ends := d.ends + us })
        (heated : { d with stage := stage, ends := d.ends + us }.heated u.eng.previous u.eng.beforePrevious = dots)
        (strobes : { d with stage := stage, ends := d.ends + us }.strobes = groupsOf b) (on : dots ≠ 0) : heats stage us dots := by
      refine (ends moves).trans ?_
      rw [next passes heated, if_neg on, strobes]
    have strobed : groupsOf (d.bursts.headD 0) = groupsOf b := by rw [head]
    refine ⟨fun stage => ?_, fun stage on => ?_, fun stage off => ?_, fun stage on => ?_, fun stage off => ?_, fun stage => ?_⟩
    · exact heat (by simp [stage]) (by simp [DotLine.nextStage, stage]) head strobed used
    · exact heat (by simp [stage]) (by simp only [DotLine.nextStage, stage, head, warmEq, if_pos on])
        (by simp only [DotLine.heated, head, warmEq]) strobed on
    · exact done (by simp [stage]) (by simp only [DotLine.nextStage, stage, head, warmEq, if_neg (not_not.2 off)])
    · exact heat (by simp [stage]) (by simp only [DotLine.nextStage, stage, head, coldEq, if_pos on])
        (by simp only [DotLine.heated, head, coldEq]) strobed on
    · exact done (by simp [stage]) (by simp only [DotLine.nextStage, stage, head, coldEq, if_neg (not_not.2 off)])
    · exact done (by simp [stage]) (by simp [DotLine.nextStage, stage])
  · intro u
    have starts : exec .halfStepStart s = .next (u.halfStep d) := by
      show execHalfStepStart s = _
      simp [execHalfStepStart, d_eq, stage, steps, u]
    have phase : u.eng.motorPhase = s.eng.motorPhase := by simp [u]
    rw [starts, State.halfStep, phase]
    rfl

end Sys2Proof.Machine

/-! PROOFS. The SAMPLE stage of a dot line and its end (R131, R133, R134, R143). -/

namespace Sys2Proof.Machine

/-! ## What the engine's operations leave alone -/

theorem State.askNotice_listenOnly (s : State) (n : Notice) : (s.askNotice n).line.listenOnly = s.line.listenOnly := by
  unfold State.askNotice
  (repeat' split) <;> rfl

theorem State.setGranted_listenOnly (s : State) (mA : Nat) (cause : BudgetCause) :
    (s.setGranted mA cause).line.listenOnly = s.line.listenOnly := by
  unfold State.setGranted
  split
  · rfl
  · exact State.askNotice_listenOnly _ _

theorem State.takeRun_eng (s : State) : s.takeRun.eng = { s.eng with run := s.takeRun.eng.run } := by
  unfold State.takeRun
  (repeat' split) <;> rfl

/-- Taking a run changes an image's state alone. -/
theorem State.takeRun_image (s : State) (id : ImageId) :
    (s.takeRun.asm.image id).darkness = (s.asm.image id).darkness ∧ s.takeRun.asm.stagedDarkness = s.asm.stagedDarkness := by
  unfold State.takeRun
  split
  next taken _ _ _ => cases id <;> cases taken <;> exact ⟨rfl, rfl⟩
  next => exact ⟨rfl, rfl⟩

theorem State.readSense_eq {s : State} {ohms : Nat} (sense : Sense) (h : s.msg.setup.dotOhms = ohms) :
    s.readSense sense = (s.setEng { s.eng with
      vc := sense.vc, tc := sense.tc, dotCurrent := (min 9000 (sense.vc.toNat * 40) + ohms - 1) / ohms }).setPins
        { s.pins with paper := sense.paper, door := sense.door } := by
  subst h
  rfl

/-- The live tests, by the set and the battery state before the sample (R119, R145). -/
theorem State.liveHolds_eq {s : State} (sense : Sense) {holds : HoldSet} {bud : Budget} (same : s.eng.holds = holds)
    (budget : s.bud = bud) :
    s.liveHolds sense = { holds with
      headHot := if 100 < sense.tc.toNat then true else if sense.tc.toNat ≤ 95 then false else holds.headHot
      lowVoltage := if sense.vc.toNat * 40 < 5600 then true else if 5800 ≤ sense.vc.toNat * 40 then false else holds.lowVoltage
      batteryCritical := decide (bud.battery = .critical)
      doorOpen := !sense.door
      paperOut := !sense.paper } := by
  subst same budget
  rfl

theorem State.lowerAtStart_listenOnly (s : State) : s.lowerAtStart.line.listenOnly = s.line.listenOnly := by
  unfold State.lowerAtStart
  split
  · rw [State.setGranted_listenOnly]
    show (s.line.handClaim _).listenOnly = _
    simp
  · rfl

/-! ## The SAMPLE stage -/

section SampleStage

variable {s : State} (sense : Sense)

theorem State.sampleStage_held {h : HoldSet} (holds : (s.takeRun.readSense sense).liveHolds sense = h) (some_ : h.any = true) :
    s.sampleStage sense = (s.takeRun.readSense sense).applyHolds h := by
  subst holds
  exact if_pos some_

theorem State.sampleStage_free {h : HoldSet} (holds : (s.takeRun.readSense sense).liveHolds sense = h) (none : h.any = false) :
    s.sampleStage sense = (s.takeRun.readSense sense).budgetAndPack := by
  subst holds
  exact if_neg (by simp [none])

theorem State.budgetAndPack_short (h : s.lowerAtStart.engineBudget < s.lowerAtStart.msg.setup.motor
      ∨ packLine s.lowerAtStart.eng.dotCurrent s.lowerAtStart.engineBudget (s.lowerAtStart.firstPattern.getD 0) = none) :
    s.budgetAndPack = s.lowerAtStart.raiseBudgetHold := by
  by_cases motor : s.lowerAtStart.engineBudget < s.lowerAtStart.msg.setup.motor
  · simp only [State.budgetAndPack, if_pos motor]
  · simp only [State.budgetAndPack, if_neg motor, h.resolve_left motor]

theorem State.budgetAndPack_begins {bursts : List Dots} (motor : s.lowerAtStart.msg.setup.motor ≤ s.lowerAtStart.engineBudget)
    (packs : packLine s.lowerAtStart.eng.dotCurrent s.lowerAtStart.engineBudget (s.lowerAtStart.firstPattern.getD 0)
      = some bursts) :
    s.budgetAndPack = s.lowerAtStart.beginDotLine (s.lowerAtStart.firstPattern.getD 0) bursts := by
  simp only [State.budgetAndPack, if_neg (Nat.not_lt.2 motor), packs]

/-- With no item in hand after a run is taken, no image waits (R131). -/
theorem State.takeRun_idle (raw : s.takeRun.eng.rawWaiting = none) (run : s.takeRun.eng.run = none) :
    s.takeRun.asm.oldestWaiting = none := by
  have kept : s.takeRun.eng.rawWaiting = s.eng.rawWaiting := by rw [s.takeRun_eng]
  rw [kept] at raw
  unfold State.takeRun at run ⊢
  split at run
  next => cases run
  next other =>
    exact Option.eq_none_iff_forall_ne_some.2 fun id waiting => other id raw run waiting

/-! The pattern of the first item, by what is in hand (R131). -/

theorem State.firstPattern_raw {p : Dots} (raw : s.eng.rawWaiting = some p) : s.firstPattern = some p := by
  simp [State.firstPattern, raw]

theorem State.firstPattern_run {r : Run} (raw : s.eng.rawWaiting = none) (run : s.eng.run = some r) :
    s.firstPattern = some (s.runPattern r) := by
  simp [State.firstPattern, raw, run]

theorem State.firstPattern_none (raw : s.eng.rawWaiting = none) (run : s.eng.run = none) (idle : s.asm.oldestWaiting = none) :
    s.firstPattern = none := by
  simp [State.firstPattern, raw, run, idle]

end SampleStage

/-- The record of a dot line that begins, and what its beginning sets (R120, R124, R126, R130). -/
theorem State.beginDotLine_eq (s : State) (pattern : Dots) (bursts : List Dots) :
    ∃ d : DotLine, s.beginDotLine pattern bursts = s.setEng { s.eng with
        rawWaiting := none, inProgress := some d
        previous := s.cooledHistory.1
        beforePrevious := s.cooledHistory.2
        lastHeat := if pattern = 0 then s.eng.lastHeat else heatTime s.lineDarkness s.eng.vc s.eng.tc
        lastBursts := if pattern = 0 then s.eng.lastBursts else bursts.length }
      ∧ d.raw = s.eng.rawWaiting.isSome ∧ d.pattern = pattern ∧ d.bursts = bursts ∧ d.budget = s.engineBudget
      ∧ d.darkness = s.lineDarkness ∧ d.dotOhms = s.msg.setup.dotOhms ∧ d.motor = s.msg.setup.motor
      ∧ d.dotCurrent = s.eng.dotCurrent ∧ d.halfSteps = 0 ∧ d.shifted = false
      ∧ (bursts = [] → d.stage = .advance ∧ d.ends = s.now ∧ d.starting = true)
      ∧ (bursts ≠ [] → d.stage = .load ∧ d.ends = s.now + 240 ∧ d.starting = false) := by
  refine ⟨_, rfl, rfl, rfl, rfl, rfl, rfl, rfl, rfl, rfl, rfl, rfl, fun empty => ?_, fun some_ => ?_⟩
  · subst empty
    exact ⟨rfl, rfl, rfl⟩
  · have loads : bursts.isEmpty = false := by simpa using some_
    simp [loads, Config.loadTime]

/-! ## The end of a dot line -/

section Completed

variable {s : State} {d : DotLine}

/-- The motor off and the history shifted: what the end of every dot line does (R133). -/
def State.printed (s : State) (d : DotLine) : State :=
  (s.setEng { (if d.shifted then s.eng else s.eng.shift d.pattern s.now) with inProgress := none }).setPins
    { s.pins with motor := 0, strobes := 0 }

theorem State.completeDotLine_raw (raw : d.raw = true) : s.completeDotLine d = (s.printed d, false) := if_pos raw

theorem State.completeDotLine_run (image : d.raw = false) : s.completeDotLine d = (s.printed d).advanceRun :=
  if_neg (by simp [image])

theorem State.advanceRun_within {r : Run} (run : s.eng.run = some r) (dot : r.dot < 9) :
    s.advanceRun = (s.setEng { s.eng with run := some { r with dot := r.dot + 1 } }, false) := by
  have : r.dot + 1 < 10 := by omega
  simp [State.advanceRun, run, this]

theorem State.advanceRun_blank {r : Run} (run : s.eng.run = some r) (dot : 9 ≤ r.dot) (more : r.line < s.runBlanks r) :
    s.advanceRun = (s.textLineDone.setEng { s.eng with run := some { r with line := r.line + 1, dot := 0 } }, false) := by
  have : ¬ r.dot + 1 < 10 := by omega
  simp [State.advanceRun, run, this, more]

theorem State.advanceRun_image {r : Run} {id : ImageId} (run : s.eng.run = some r) (dot : 9 ≤ r.dot) (last : s.runBlanks r ≤ r.line)
    (image : r.image = some id) :
    s.advanceRun = ((s.textLineDone.setEng { s.eng with run := none }).freeImage id, true) := by
  have : ¬ r.dot + 1 < 10 := by omega
  simp [State.advanceRun, run, this, Nat.not_lt.2 last, image]

theorem State.advanceRun_feed {r : Run} (run : s.eng.run = some r) (dot : 9 ≤ r.dot) (last : s.runBlanks r ≤ r.line)
    (image : r.image = none) :
    s.advanceRun = (s.textLineDone.setEng { s.eng with run := none }, true) := by
  have : ¬ r.dot + 1 < 10 := by omega
  simp [State.advanceRun, run, this, Nat.not_lt.2 last, image]

/-- A completed dot line leaves the set of conditions, what is asked for and the step in force alone. -/
theorem State.advanceRun_eng (s : State) : s.advanceRun.1.eng = { s.eng with run := s.advanceRun.1.eng.run } := by
  unfold State.advanceRun
  (repeat' split) <;> simp

theorem State.completeDotLine_keeps (s : State) (d : DotLine) :
    (s.completeDotLine d).1.eng.holds = s.eng.holds ∧ (s.completeDotLine d).1.eng.holdAsked = s.eng.holdAsked
      ∧ (s.completeDotLine d).1.eng.budgetAsked = s.eng.budgetAsked ∧ (s.completeDotLine d).1.eng.step = s.eng.step := by
  have shifted : (s.printed d).eng.holds = s.eng.holds ∧ (s.printed d).eng.holdAsked = s.eng.holdAsked
      ∧ (s.printed d).eng.budgetAsked = s.eng.budgetAsked ∧ (s.printed d).eng.step = s.eng.step := by
    show (if d.shifted = true then s.eng else s.eng.shift d.pattern s.now).holds = _ ∧ _
    unfold State.printed
    split <;> exact ⟨rfl, rfl, rfl, rfl⟩
  cases raw : d.raw with
  | true => rwa [State.completeDotLine_raw raw]
  | false =>
    rw [State.completeDotLine_run raw, State.advanceRun_eng]
    exact shifted

theorem State.endDotLine_eq {w : State} {done : Bool} (sense : Sense) (completed : s.completeDotLine d = (w, done)) {over_ : Bool}
    (step : stepDone s.eng.step d.raw done = over_) :
    s.endDotLine d sense =
      (if ({ s.eng.holds with
          controllerHold := s.eng.holds.controllerHold || s.eng.holdAsked || over_
          budget := s.eng.holds.budget || s.eng.budgetAsked } : HoldSet).any
      then (w.setEng { w.eng with
          holdAsked := false, budgetAsked := false, step := if over_ then .none else s.eng.step }).applyHolds
        { s.eng.holds with
          controllerHold := s.eng.holds.controllerHold || s.eng.holdAsked || over_
          budget := s.eng.holds.budget || s.eng.budgetAsked }
      else (w.setEng { w.eng with
          holdAsked := false, budgetAsked := false, step := if over_ then .none else s.eng.step }).goOn sense) := by
  obtain ⟨holds, holdAsked, budgetAsked, stepKept⟩ := s.completeDotLine_keeps d
  rw [completed] at holds holdAsked budgetAsked stepKept
  simp only at holds holdAsked budgetAsked stepKept
  simp only [State.endDotLine, completed, holds, holdAsked, budgetAsked, stepKept, step]

end Completed

/-- Settles O41: the end of a dot line by what it was, the lines completed, and the SAMPLE stage by what the sample finds. -/
theorem dotLineEnds : Obligations.DotLineEnds := by
  refine ⟨fun s sense d d_eq stage steps => ?_, fun s id => ?_, fun s r => ⟨fun id image => ?_, fun image => ?_⟩, fun s sense => ?_⟩
  · intro u printed v
    have eng : u.eng = s.eng := by simp [u]
    have vEq : u.printed d = v := rfl
    have vEng : v.eng = { printed with inProgress := none } := rfl
    have run : v.eng.run = s.eng.run := by
      rw [vEng, ← eng]
      show (if d.shifted = true then u.eng else u.eng.shift d.pattern u.now).run = _
      split <;> rfl
    have ended : exec (.dotLineEnd sense) s = .next (State.reviewed s (u.endDotLine d sense)) := by
      show execDotLineEnd sense s = _
      simp only [execDotLineEnd, d_eq, stage, steps, and_self, if_true]
      rfl
    refine ⟨ended, fun raw => State.completeDotLine_raw raw, fun image r r_eq => ?_, fun w done completed => ?_⟩
    · have passes : u.completeDotLine d = v.advanceRun := State.completeDotLine_run image
      rw [passes]
      exact ⟨State.advanceRun_within (run.trans r_eq), State.advanceRun_blank (run.trans r_eq),
        fun dot last id => State.advanceRun_image (run.trans r_eq) dot last,
        fun dot last => State.advanceRun_feed (run.trans r_eq) dot last⟩
    · intro stepOver h x
      have step : stepDone u.eng.step d.raw done = stepOver := by
        rw [eng]
        simp only [stepOver]
        cases s.eng.step with
        | line untilRaw => cases untilRaw <;> rfl
        | _ => rfl
      have ends : u.endDotLine d sense = if h.any then x.applyHolds h else x.goOn sense := by
        rw [State.endDotLine_eq sense completed step, eng]
      refine ⟨fun some_ => ?_, fun none work => ?_, fun none idle moves => ?_⟩
      · rw [ends, if_pos some_]
      · rw [ends, none, if_neg Bool.false_ne_true]
        exact if_pos work
      · rw [ends, none, if_neg Bool.false_ne_true]
        have idle : x.workExists = false := idle
        refine (if_neg (by simp [idle])).trans ?_
        exact if_neg moves
  · intro l
    refine ⟨?_, rfl⟩
    by_cases zero : l = 0
    · simp [State.textLineDone, l, zero] 
    · simp [State.textLineDone, l, zero]
  · exact ⟨by simp [State.runBlanks, image], by simp [State.runPattern, image]⟩
  · exact ⟨by simp [State.runBlanks, image], by simp [State.runPattern, image]⟩
  · intro w mv ohms current r h free lowered budget pattern darkness cold
    have wEq : s.takeRun = w := rfl
    have wEng : w.eng = { s.eng with run := w.eng.run } := by rw [← wEq]; exact s.takeRun_eng
    have wMsg : w.msg = s.msg := by rw [← wEq]; simp
    have read : s.takeRun.readSense sense = r := State.readSense_eq sense (by rw [wEq, wMsg])
    have holds : (s.takeRun.readSense sense).liveHolds sense = h := by
      refine State.liveHolds_eq sense ?_ ?_
      · rw [read]
        show w.eng.holds = _
        rw [wEng]
      · simp
    have rMsg : r.msg = s.msg := wMsg
    have rLine : r.line = s.line := by rw [← read]; simp
    have rBud : r.bud = s.bud := by rw [← read]; simp
    have lowers : r.lowerAtStart = lowered := by
      have falls : (!r.line.listenOnly && decide (r.available < r.bud.granted)) = true
          ↔ s.line.listenOnly = false ∧ r.available < s.bud.granted := by rw [rLine, rBud]; simp
      by_cases c : s.line.listenOnly = false ∧ r.available < s.bud.granted
      · exact (if_pos (falls.2 c)).trans (if_pos c).symm
      · exact (if_neg fun h => c (falls.1 h)).trans (if_neg c).symm
    have lEng : lowered.eng = r.eng := by rw [← lowers]; simp
    have lAsm : lowered.asm = w.asm := by rw [← lowers]; simp [r]
    have lMsg : lowered.msg = s.msg := by rw [← lowers]; simp [rMsg]
    have lNow : lowered.now = s.now := by rw [← lowers, ← read]; simp
    have budgetEq : lowered.engineBudget = budget := by
      have quiet : lowered.line.listenOnly = s.line.listenOnly := by rw [← lowers, State.lowerAtStart_listenOnly, rLine]
      simp only [State.engineBudget, quiet, Config.quietBudget, budget]
    have patternEq : lowered.firstPattern.getD 0 = pattern := by
      have lRaw : lowered.eng.rawWaiting = w.eng.rawWaiting := by rw [lEng]; rfl
      have lRun : lowered.eng.run = w.eng.run := by rw [lEng]; rfl
      cases raw : w.eng.rawWaiting with
      | some p =>
        rw [State.firstPattern_raw (lRaw.trans raw)]
        simp only [pattern, raw, Option.getD_some]
      | none =>
        cases run : w.eng.run with
        | some item =>
          rw [State.firstPattern_run (lRaw.trans raw) (lRun.trans run)]
          simp only [pattern, raw, run, Option.getD_some, State.runPattern, lAsm]
        | none =>
          have idle : lowered.asm.oldestWaiting = none := by rw [lAsm]; exact State.takeRun_idle raw run
          rw [State.firstPattern_none (lRaw.trans raw) (lRun.trans run) idle]
          simp only [pattern, raw, run, Option.getD_none]
    have darknessEq : lowered.lineDarkness = darkness := by
      have lRaw : lowered.eng.rawWaiting = w.eng.rawWaiting := by rw [lEng]; rfl
      have lRun : lowered.eng.run = w.eng.run := by rw [lEng]; rfl
      have staged : lowered.asm.stagedDarkness = s.asm.stagedDarkness := by rw [lAsm]; exact (s.takeRun_image .one).2
      have image (id : ImageId) : (lowered.asm.image id).darkness = (s.asm.image id).darkness := by
        rw [lAsm]
        exact (s.takeRun_image id).1
      cases raw : w.eng.rawWaiting with
      | some p => simp only [State.lineDarkness, darkness, lRaw, raw, staged]
      | none =>
        cases run : w.eng.run with
        | none => simp only [State.lineDarkness, darkness, lRaw, raw, lRun, run]
        | some item =>
          obtain ⟨of, line, dot⟩ := item
          cases of <;> simp only [State.lineDarkness, darkness, lRaw, raw, lRun, run, image]
    have free_ (none : h.any = false) : s.sampleStage sense = r.budgetAndPack := by
      rw [State.sampleStage_free sense holds none, read]
    refine ⟨fun some_ => ?_, fun none short => ?_, fun none motor bursts packs => ?_⟩
    · rw [State.sampleStage_held sense holds some_, read]
    · rw [free_ none, State.budgetAndPack_short]
      · rw [lowers]; rfl
      · rw [lowers, budgetEq, lMsg, lEng, patternEq]
        exact short
    · rw [free_ none, State.budgetAndPack_begins (bursts := bursts) (by rw [lowers, lMsg, budgetEq]; exact motor)
        (by rw [lowers, lEng, budgetEq, patternEq]; exact packs), lowers, patternEq]
      have cooled : lowered.cooledHistory = (if cold then 0 else s.eng.previous, if cold then 0 else s.eng.beforePrevious) := by
        have history : lowered.eng.lastShift = s.eng.lastShift ∧ lowered.eng.previous = s.eng.previous
            ∧ lowered.eng.beforePrevious = s.eng.beforePrevious := by
          rw [lEng]
          show w.eng.lastShift = _ ∧ w.eng.previous = _ ∧ w.eng.beforePrevious = _
          rw [wEng]
          exact ⟨rfl, rfl, rfl⟩
        obtain ⟨lastShift, previous, beforePrevious⟩ := history
        cases shift : s.eng.lastShift with
        | none => simp [State.cooledHistory, cold, lastShift, previous, beforePrevious, shift]
        | some t =>
          by_cases long : t + 100000 ≤ s.now <;>
            simp [State.cooledHistory, cold, lastShift, previous, beforePrevious, shift, lNow, Config.coolDown, long]
      obtain ⟨d, begins, raw, dots, parts, drawn, dark, ohms', motor', current', steps, shifted, blank, heats⟩ :=
        lowered.beginDotLine_eq pattern bursts
      rw [cooled, darknessEq, lEng] at begins
      have lastHeat : r.eng.lastHeat = s.eng.lastHeat := by
        show w.eng.lastHeat = _
        rw [wEng]
      have lastBursts : r.eng.lastBursts = s.eng.lastBursts := by
        show w.eng.lastBursts = _
        rw [wEng]
      rw [lastHeat, lastBursts] at begins
      refine ⟨d, begins.trans ?_, ?_, dots, parts, drawn.trans budgetEq, dark.trans darknessEq, ?_, ?_, ?_, steps, shifted,
        fun empty => ?_, fun some_ => ?_⟩
      · rw [lEng]
        rfl
      · rw [raw, lEng]
        rfl
      · rw [ohms', lMsg]
      · rw [motor', lMsg]
      · rw [current', lEng]
        rfl
      · rw [← lNow]
        exact blank empty
      · rw [← lNow]
        exact heats some_

end Sys2Proof.Machine

/-! PROOFS. The watch sample, the work test (R118, R119, R141, R142) and the hold conditions applied (R144, R147, R151). -/

namespace Sys2Proof.Machine

/-! ## The work and its test -/

theorem State.workExists_iff (s : State) :
    s.workExists = true ↔ s.eng.stoppedLine ≠ none ∨ s.eng.rawWaiting ≠ none ∨ s.eng.run ≠ none
      ∨ s.asm.oldestWaiting ≠ none ∨ s.eng.inProgress ≠ none := by
  simp [State.workExists, Option.isSome_iff_ne_none, or_assoc]

theorem Assembler.oldestWaiting_eq_none_iff (a : Assembler) :
    a.oldestWaiting = none ↔ a.image1.st ≠ .waiting ∧ a.image2.st ≠ .waiting := by
  unfold Assembler.oldestWaiting
  by_cases one : a.image1.st = .waiting
  · simp only [one, if_true]
    split <;> simp
  · by_cases two : a.image2.st = .waiting <;> simp [one, two]

theorem Assembler.oldestWaiting_some {a : Assembler} {id : ImageId} (h : a.oldestWaiting = some id) :
    (a.image id).st = .waiting
      ∧ ∀ other, (a.image other).st = .waiting → (a.image id).order ≤ (a.image other).order := by
  unfold Assembler.oldestWaiting at h
  split at h
  next one =>
    split at h
    next later =>
      cases h
      simp only [Bool.and_eq_true, decide_eq_true_eq] at later
      obtain ⟨two, earlier⟩ := later
      exact ⟨two, fun other _ => by cases other with
        | one => exact Nat.le_of_lt earlier
        | two => exact Nat.le_refl _⟩
    next later =>
      cases h
      simp only [Bool.and_eq_true, decide_eq_true_eq, not_and, Nat.not_lt] at later
      exact ⟨one, fun other waits => by cases other with
        | one => exact Nat.le_refl _
        | two => exact later waits⟩
  next one =>
    split at h
    next two =>
      cases h
      exact ⟨two, fun other waits => by cases other with
        | one => exact absurd waits one
        | two => exact Nat.le_refl _⟩
    next => cases h

section WorkTest

variable {s : State} (sense : Sense)

theorem State.setEngineState_eq (s : State) (st : EngineState) :
    s.setEngineState st = if s.eng.st = st then s else s.setEng { s.eng with
      st := st, watchTimer := if st = .printing then none else some (s.now + 50000) } := rfl

theorem State.workTest_idle (idle : s.workExists = false) :
    s.workVerdict = .idle ∧ s.workTest sense = s.setEngineState .idle := by
  have verdict : s.workVerdict = .idle := by simp [State.workVerdict, idle]
  exact ⟨verdict, by rw [State.workTest, verdict]⟩

theorem State.workTest_printing (work : s.workExists = true) (meets : s.need ≤ s.engineBudget) :
    s.workVerdict = .printing ∧ s.workTest sense = (s.setEngineState .printing).startItem sense := by
  have verdict : s.workVerdict = .printing := by simp [State.workVerdict, work, meets]
  exact ⟨verdict, by rw [State.workTest, verdict]⟩

theorem State.workTest_claiming (work : s.workExists = true) (short : s.engineBudget < s.need)
    (speaks : s.line.listenOnly = false) : s.workVerdict = .claiming ∧ s.workTest sense = s.setEngineState .claiming := by
  have verdict : s.workVerdict = .claiming := by simp [State.workVerdict, work, Nat.not_le.2 short, speaks]
  exact ⟨verdict, by rw [State.workTest, verdict]⟩

theorem State.workTest_short (work : s.workExists = true) (short : s.engineBudget < s.need)
    (silent : s.line.listenOnly = true) : s.workVerdict = .short ∧ s.workTest sense = s.raiseBudgetHold := by
  have verdict : s.workVerdict = .short := by simp [State.workVerdict, work, Nat.not_le.2 short, silent]
  exact ⟨verdict, by rw [State.workTest, verdict]⟩

end WorkTest

/-- BUDGET after a watch sample, by the conditions of R142. -/
theorem State.budgetAfterWatch_eq (s : State) :
    s.budgetAfterWatch = (if s.line.listenOnly then s.eng.holds.budget
      else if s.eng.holds.budget then decide (s.bud.granted < s.need)
      else decide (s.eng.st = .claiming ∧ s.bud.granted < s.need ∧ s.desired < s.need)) := by
  unfold State.budgetAfterWatch
  rw [Bool.decide_and, Bool.decide_and, Bool.and_assoc]

/-- Settles O42: a watch sample by what it finds, and the work test by the work, the budget and listen-only. -/
theorem watchSampled : Obligations.WatchSampled := by
  refine ⟨fun s sense d due => ?_, fun s sense => ?_⟩
  · intro v mv u h
    have watches : exec (.watchSample sense) s = .next (State.reviewed s (v.watch sense)) :=
      s.onTimer_running due fun s => s.watch sense
    have vEng : v.eng = s.eng := by simp [v]
    have vMsg : v.msg = s.msg := by simp [v]
    have vBud : v.bud = s.bud := by simp [v]
    have vLine : v.line.listenOnly = s.line.listenOnly := by simp [v]
    let read := (v.readSense sense).setEng { (v.readSense sense).eng with watchTimer := some (v.now + 50000) }
    have readEq : read = u := by
      simp only [read]
      rw [State.readSense_eq (s := v) sense (congrArg (fun m => m.setup.dotOhms) vMsg)]
      rfl
    have held : u.eng.holds = s.eng.holds := by
      show v.eng.holds = _
      rw [vEng]
    have st : u.eng.st = s.eng.st := by
      show v.eng.st = _
      rw [vEng]
    have bud : u.bud = s.bud := vBud
    have line : u.line.listenOnly = s.line.listenOnly := vLine
    have holds : { u.liveHolds sense with budget := u.budgetAfterWatch } = h := by
      rw [State.liveHolds_eq sense held bud, State.budgetAfterWatch_eq, line, held, bud, st]
    have eq : v.watch sense = if h.any then u.applyHolds h else if u.eng.holds.any then u.leaveHeld sense else u.workTest sense := by
      rw [← holds, ← readEq]
      rfl
    refine ⟨fun some_ => ?_, fun none was => ?_, fun none was => ?_⟩
    · exact watches.trans (reviewed_congr s (by rw [eq, if_pos some_]))
    · exact watches.trans (reviewed_congr s (by rw [eq, none, held, was]; rfl))
    · exact watches.trans (reviewed_congr s (by rw [eq, none, held, was]; rfl))
  · intro budget enters
    have engineBudget : s.engineBudget = budget := rfl
    refine ⟨?_, Assembler.oldestWaiting_eq_none_iff _, fun id => Assembler.oldestWaiting_some, s.setEngineState_eq,
      State.workTest_idle sense, State.workTest_printing sense, State.workTest_claiming sense, State.workTest_short sense⟩
    rw [State.workExists_iff, Ne, Ne, Ne, Ne.eq_def s.asm.oldestWaiting, Assembler.oldestWaiting_eq_none_iff, not_and_or, not_not,
      not_not, or_assoc]

/-! ## Hold conditions applied -/

theorem stepEnded_eq (step : Step) (h : HoldSet) :
    stepEnded step h = { h with controllerHold := h.controllerHold || decide (step ≠ .none) } := by
  cases step with
  | none => simp [stepEnded]
  | _ => simp [stepEnded]

theorem HoldSet.highest_eq (h : HoldSet) :
    h.highest = if h.stopped then some .stopped else if h.headHot then some .headHot
      else if h.lowVoltage then some .lowVoltage else if h.batteryCritical then some .batteryCritical
      else if h.doorOpen then some .doorOpen else if h.paperOut then some .paperOut
      else if h.budget then some .budget else if h.controllerHold then some .controllerHold else none := by
  have first (k : Hold) (rest : List Hold) : (k :: rest).find? h.has = if h.has k then some k else rest.find? h.has := by
    cases present : h.has k <;> simp [present]
  rw [HoldSet.highest, first, first, first, first, first, first, first, first]
  rfl

section Applied

variable {s : State} {h : HoldSet} {c : Hold}

theorem State.enterHeld_eq (highest : h.highest = some c) :
    s.enterHeld h = (s.setEng { s.eng with
        st := .held, holds := h, cause := some c, holdCount := s.eng.holdCount + 1, step := .none
        watchTimer := if s.eng.st = .held then s.eng.watchTimer else some (s.now + 50000) }).askNotice
      (.printHeld c h (s.eng.holdCount + 1)) := by
  have taken : s.enterHeld h = ((s.setEng { s.eng with
      holds := h, cause := some c, holdCount := s.eng.holdCount + 1, step := .none }).setEngineState .held).askNotice
        (.printHeld c h (s.eng.holdCount + 1)) := by simp only [State.enterHeld, highest]
  rw [taken, State.setEngineState_eq]
  by_cases held : s.eng.st = .held
  · refine congrArg (State.askNotice · _) ((if_pos held).trans ?_)
    rw [if_pos held, ← held]
  · refine congrArg (State.askNotice · _) ((if_neg held).trans ?_)
    rw [if_neg held]
    rfl

theorem State.keepHeld_locked {old : Hold} (cause : s.eng.cause = some old) (highest : h.highest = some c)
    (present : h.has old = true) : s.keepHeld h = s.setEng { s.eng with holds := h } := by
  simp only [State.keepHeld, highest, cause, if_pos present]

theorem State.keepHeld_passes {old : Hold} (cause : s.eng.cause = some old) (highest : h.highest = some c)
    (ceased : h.has old = false) :
    s.keepHeld h = (s.setEng { s.eng with holds := h, cause := some c }).askNotice (.printHeld c h s.eng.holdCount) := by
  simp [State.keepHeld, highest, cause, ceased]

end Applied

/-- Settles O43: entry to HELD, the cause while it is present, and where it passes on. -/
theorem holdsApplied : Obligations.HoldsApplied := by
  refine fun s h c => ⟨fun free => ?_, fun held old cause any => ⟨fun present => ?_, fun ceased highest => ?_⟩, h.highest_eq,
    h.highest_eq_none_iff, fun k => by cases k <;> rfl⟩
  · intro joined highest
    have enters : s.applyHolds h = s.enterHeld joined := by
      rw [State.applyHolds, if_neg (by simp [free]), stepEnded_eq]
    rw [enters, State.enterHeld_eq highest]
  · obtain ⟨k, highest⟩ := Option.ne_none_iff_exists'.1 fun none => absurd (h.highest_eq_none_iff.1 none) (by simp [any])
    exact (if_pos held).trans (State.keepHeld_locked cause highest present)
  · exact (if_pos held).trans (State.keepHeld_passes cause highest ceased)

end Sys2Proof.Machine

/-! PROOFS. The print control requests (R135, R148 to R153). -/

namespace Sys2Proof.Machine

/-! ## What each request comes to -/

section Requests

variable {s : State} {src : Addr} (takes : s.Takes src) (m : Moment)
include takes

/-- A print control request whose rule is known at the message's moment. -/
theorem State.Takes.answers {c : Instr} {kind : Byte} {rule : State → State × Answer} {t : State} {a : Answer}
    (is : exec c s = .next (s.delivered m s.line.addr src fun u => u.request src kind true rule))
    (result : rule (s.heard m.t) = (t, a)) : exec c s = .next (State.reviewed s (t.reply src kind a)) := by
  rw [is, takes.answered, result]

theorem State.Takes.hold {t : State} {a : Answer} (result : (s.heard m.t).holdRule = (t, a)) :
    exec (.hold m src []) s = .next (State.reviewed s (t.reply src kindPrintControl a)) :=
  takes.answers m (c := .hold m src []) rfl result

theorem State.Takes.resume {t : State} {a : Answer} (result : (s.heard m.t).resumeRule m.sense = (t, a)) :
    exec (.resume m src []) s = .next (State.reviewed s (t.reply src kindPrintControl a)) :=
  takes.answers m (c := .resume m src []) (rule := fun u => u.resumeRule m.sense) rfl result

theorem State.Takes.stopNow {t : State} {a : Answer} (result : (s.heard m.t).stopNowRule = (t, a)) :
    exec (.stopNow m src []) s = .next (State.reviewed s (t.reply src kindPrintControl a)) :=
  takes.answers m (c := .stopNow m src []) rfl result

theorem State.Takes.stepLine {t : State} {a : Answer} (result : (s.heard m.t).stepLineRule m.sense = (t, a)) :
    exec (.stepLine m src []) s = .next (State.reviewed s (t.reply src kindPrintControl a)) :=
  takes.answers m (c := .stepLine m src []) (rule := fun u => u.stepLineRule m.sense) rfl result

theorem State.Takes.setDarkness {t : State} {a : Answer} {v : Byte} (result : (s.heard m.t).setDarknessRule v = (t, a)) :
    exec (.setDarkness m src [v]) s = .next (State.reviewed s (t.reply src kindPrintControl a)) :=
  takes.answers m (c := .setDarkness m src [v]) (rule := fun u => u.setDarknessRule v) rfl result

theorem State.Takes.setWidth {t : State} {a : Answer} {v : Byte} (result : (s.heard m.t).setWidthRule v = (t, a)) :
    exec (.setWidth m src [v]) s = .next (State.reviewed s (t.reply src kindPrintControl a)) :=
  takes.answers m (c := .setWidth m src [v]) (rule := fun u => u.setWidthRule v) rfl result

theorem State.Takes.rawDotLine {t : State} {a : Answer} {body : List Byte} (length : body.length = 60)
    (result : (s.heard m.t).rawDotLineRule body m.sense = (t, a)) :
    exec (.rawDotLine m src body) s = .next (State.reviewed s (t.reply src kindRawDotLine a)) := by
  refine takes.answers m (c := .rawDotLine m src body) (rule := fun u => u.rawDotLineRule body m.sense) ?_ result
  show execRawDotLine m src body s = _
  simp only [execRawDotLine, State.rawRequest, length, decide_true]

end Requests

/-! ## RESUME, STOP NOW and the first item -/

section Rules

variable {s : State}

theorem Engine.resumable_iff (e : Engine) :
    e.resumable = true ↔ e.holds.stopped = true ∨ e.holds.controllerHold = true ∨ e.holdAsked = true ∨ e.step ≠ .none := by
  simp [Engine.resumable, or_assoc]

theorem State.changeHolds_some {h : HoldSet} (sense : Sense) (some_ : h.any = true) : s.changeHolds h sense = s.applyHolds h :=
  if_pos some_

theorem State.changeHolds_ends {h : HoldSet} (sense : Sense) (none : h.any = false) (was : s.eng.holds.any = true) :
    s.changeHolds h sense = s.leaveHeld sense := by simp [State.changeHolds, none, was]

theorem State.changeHolds_free {h : HoldSet} (sense : Sense) (none : h.any = false) (was : s.eng.holds.any = false) :
    s.changeHolds h sense = s := by simp [State.changeHolds, none, was]

theorem State.startItem_fresh (sense : Sense) (none : s.eng.stoppedLine = none) : s.startItem sense = s.sampleStage sense := by
  simp only [State.startItem, none]

theorem State.cutDotLine_none (idle : s.eng.inProgress = none) : s.cutDotLine = s := by simp only [State.cutDotLine, idle]

/-- The engine once a dot line is cut, its history being that of `e` (R135). -/
def Engine.cutTo (e : Engine) (d : DotLine) : Engine :=
  { e with
    inProgress := none
    stoppedLine := some { d with
      stage := .advance, bursts := [], shifted := true, starting := false
      halfSteps := if d.starting then d.halfSteps + 1 else d.halfSteps }
    motorPhase := if d.starting then e.motorPhase + 1 else e.motorPhase }

theorem State.cutDotLine_some {d : DotLine} (d_eq : s.eng.inProgress = some d) :
    s.cutDotLine = (s.setEng ((if d.shifted then s.eng else s.eng.shift d.pattern s.now).cutTo d)).setPins
      { s.pins with strobes := 0, motor := 0 } := by
  simp only [State.cutDotLine, d_eq, Engine.cutTo]

theorem Engine.shifted_keeps (e : Engine) (d : DotLine) (now : Nat) :
    let cut := if d.shifted then e else e.shift d.pattern now
    cut.holds = e.holds ∧ cut.holdAsked = e.holdAsked ∧ cut.budgetAsked = e.budgetAsked ∧ cut.motorPhase = e.motorPhase := by
  intro cut
  simp only [cut]
  split <;> exact ⟨rfl, rfl, rfl, rfl⟩

/-- STOP NOW after its cut: what is asked for joins the set (R150). -/
theorem State.stopNowRule_eq {v : State} (cut : s.cutDotLine = v) (holds : v.eng.holds = s.eng.holds)
    (holdAsked : v.eng.holdAsked = s.eng.holdAsked) (budgetAsked : v.eng.budgetAsked = s.eng.budgetAsked) :
    s.stopNowRule = ((v.setEng { v.eng with holdAsked := false, budgetAsked := false }).applyHolds { s.eng.holds with
      stopped := true
      controllerHold := s.eng.holds.controllerHold || s.eng.holdAsked
      budget := s.eng.holds.budget || s.eng.budgetAsked }, .accepted) := by
  subst cut
  rw [← holds, ← holdAsked, ← budgetAsked]
  rfl

variable {d : DotLine} (stopped : s.eng.stoppedLine = some d) (sense : Sense)
include stopped

theorem State.startItem_short (short : s.engineBudget < s.msg.setup.motor) : s.startItem sense = s.raiseBudgetHold := by
  simp only [State.startItem, stopped, if_pos short]

theorem State.startItem_steps (enough : s.msg.setup.motor ≤ s.engineBudget) (left : d.halfSteps < 2) :
    s.startItem sense = s.setEng { s.eng with
      stoppedLine := none, inProgress := some { d with stage := .advance, ends := s.now, starting := true } } := by
  simp only [State.startItem, stopped, if_neg (Nat.not_lt.2 enough), if_neg (Nat.not_le.2 left), decide_eq_true left]

theorem State.startItem_ends (enough : s.msg.setup.motor ≤ s.engineBudget) (done : 2 ≤ d.halfSteps) :
    s.startItem sense = (s.setEng { s.eng with
      stoppedLine := none, inProgress := some { d with stage := .advance, ends := s.now, starting := false } }).endDotLine
        { d with stage := .advance, ends := s.now, starting := false } sense := by
  simp only [State.startItem, stopped, if_neg (Nat.not_lt.2 enough), if_pos done, decide_eq_false (Nat.not_lt.2 done)]

end Rules

/-- Settles O44: each request by what stands in its way, and the first item by whether a dot line was stopped. -/
theorem holdResumeStop : Obligations.HoldResumeStop := by
  refine ⟨fun s m src takes => ?_, fun s sense => ?_⟩
  · intro u answers stop
    have eng : u.eng = s.eng := by simp [u]
    refine ⟨fun h => ?_, fun free unasked busy => ?_, fun free unasked idle => ?_, fun a b c d => ?_, fun h => ?_, fun idle => ?_,
      fun d d_eq => ?_⟩
    · exact takes.hold m (if_pos (by rw [eng]; simpa using h))
    · refine takes.hold m ((if_neg (by rw [eng]; simp [free, unasked])).trans ?_)
      exact if_pos (by rw [eng]; simpa [Option.isSome_iff_ne_none] using busy)
    · refine takes.hold m ((if_neg (by rw [eng]; simp [free, unasked])).trans ?_)
      exact if_neg (by rw [eng]; simp [idle])
    · refine takes.resume m (if_neg ?_)
      rw [eng, Engine.resumable_iff]
      simp [a, b, c, d]
    · intro v h'
      have resumed : u.resumeRule m.sense = (v.changeHolds h' m.sense, .accepted) :=
        if_pos (by rw [eng]; exact (Engine.resumable_iff _).2 h)
      have held : v.eng.holds = s.eng.holds := by
        show u.eng.holds = _
        rw [eng]
      refine ⟨fun some_ => ?_, fun none was => ?_, fun none was => ?_⟩
      · exact takes.resume m (resumed.trans (by rw [State.changeHolds_some m.sense some_]))
      · exact takes.resume m (resumed.trans (by rw [State.changeHolds_ends m.sense none (by rw [held]; exact was)]))
      · exact takes.resume m (resumed.trans (by rw [State.changeHolds_free m.sense none (by rw [held]; exact was)]))
    · refine takes.stopNow m ?_
      rw [State.stopNowRule_eq (State.cutDotLine_none (by rw [eng]; exact idle)) rfl rfl rfl, eng]
    · intro cut left
      refine takes.stopNow m ?_
      obtain ⟨holds, holdAsked, budgetAsked, motorPhase⟩ := u.eng.shifted_keeps d u.now
      have stopEq : { u.eng.holds with
          stopped := true
          controllerHold := u.eng.holds.controllerHold || u.eng.holdAsked
          budget := u.eng.holds.budget || u.eng.budgetAsked } = stop := by rw [eng]
      have leftEq : { cut.cutTo d with holdAsked := false, budgetAsked := false } = left := by
        rw [Engine.cutTo, show cut.motorPhase = u.eng.motorPhase from motorPhase]
      rw [State.stopNowRule_eq (State.cutDotLine_some (by rw [eng]; exact d_eq)) holds holdAsked budgetAsked, stopEq, ← leftEq]
      rfl
  · intro budget
    exact ⟨State.startItem_fresh sense, fun d stopped => ⟨State.startItem_short stopped sense, State.startItem_steps stopped sense,
      State.startItem_ends stopped sense⟩⟩

/-! ## STEP LINE, RAW DOT LINE and the staged values -/

theorem HoldSet.controllerAlone_iff (h : HoldSet) : h.controllerAlone = true ↔ h = { controllerHold := true } := by
  cases h
  simp [HoldSet.controllerAlone, HoldSet.withoutController, HoldSet.any, and_comm, and_assoc]

/-- The 60 characters of a raw dot line, bit by bit from position 0 (R131, R195). -/
theorem getLsbD_rawPattern (body : List Byte) {i : Nat} (position : i < 480) :
    (rawPattern body).getLsbD i = ((body[i / 8]?).getD 0).getLsbD (7 - i % 8) := by
  have bits := getLsbD_foldl_or (fun p => ((body[p / 8]?).getD 0).getLsbD (7 - p % 8)) (fun p => span p 1) (List.range 480) 0 i
  refine bits.trans ?_
  rw [show BitVec.getLsbD (0 : Dots) i = false from BitVec.getLsbD_zero, Bool.false_or, Bool.eq_iff_iff, List.any_eq_true]
  simp only [List.mem_range, Bool.and_eq_true, getLsbD_span, decide_eq_true_eq]
  constructor
  · rintro ⟨p, -, on, -, low, high⟩
    obtain rfl : p = i := by omega
    exact on
  · exact fun on => ⟨i, position, on, position, Nat.le_refl i, Nat.lt_succ_self i⟩

theorem State.workExists_congr {s t : State} (eng : t.eng = s.eng) (asm : t.asm = s.asm) : t.workExists = s.workExists := by
  rw [State.workExists, State.workExists, eng, asm]

/-- Settles O45: a step is taken behind CONTROLLER-HOLD alone, and HELD is left by the work test's finding. -/
theorem stepAndRaw : Obligations.StepAndRaw := by
  intro s m src body takes length u alone
  have eng : u.eng = s.eng := by simp [u]
  have work : u.workExists = s.workExists := State.workExists_congr eng (by simp [u])
  have aloneIff : u.eng.holds.controllerAlone = true ↔ alone := by rw [eng]; exact HoldSet.controllerAlone_iff _
  refine ⟨fun h exists_ => ?_, fun h => ?_, fun h stopped waiting => ?_, fun h => ?_, fun v sense => rfl, fun v => rfl⟩
  · intro raw
    have rawEq : u.eng.stepsRaw = raw := by rw [eng]; rfl
    refine takes.stepLine m ((if_pos ?_).trans ?_)
    · rw [aloneIff.2 h, work, exists_]
      rfl
    · rw [rawEq]
  · refine takes.stepLine m (if_neg ?_)
    rw [Bool.and_eq_true, aloneIff, work]
    exact fun both => h.elim (· both.1) (by simp [both.2])
  · refine ⟨rawPattern body, fun i position => getLsbD_rawPattern body position, takes.rawDotLine m length (if_pos ?_)⟩
    rw [aloneIff.2 h, eng, stopped, waiting]
    rfl
  · refine takes.rawDotLine m length (if_neg ?_)
    rw [Bool.and_eq_true, Bool.and_eq_true, aloneIff, eng, Option.isNone_iff_eq_none, Option.isNone_iff_eq_none]
    rintro ⟨⟨a, b⟩, c⟩
    exact h.elim (· a) fun h => h.elim (· b) (· c)

/-- Settles O46: each value brought to the nearest bound of its range and staged alone. -/
theorem stagedValues : Obligations.StagedValues := by
  intro s m src v takes u
  have bit : v.toNat ≤ 1 ↔ v = 0 ∨ v = 1 := by bv_omega
  refine ⟨takes.setDarkness m rfl, takes.setWidth m ?_⟩
  simp only [State.setWidthRule, bit]
  rfl

end Sys2Proof.Machine

/-! PROOFS. The Budget Unit: what it hears (R156, R158, R159) and its timers, figures and reports (R140, R157, R160 to R171). -/

namespace Sys2Proof.Machine

/-! ## What is heard -/

/-- A message of another station, heard in START or RUN while no attempt runs. -/
theorem State.delivered_heard {s : State} {src : Addr} (m : Moment) (dest : Addr) (act : State → State)
    (attempt : s.line.attempt = none) (awake : s.msg.op ≠ .doze) (other : src ≠ s.line.addr) :
    s.delivered m dest src act = State.reviewed s (act (s.heard m.t)) := by
  have op : (s.heard m.t).msg.op ≠ .doze := by simpa using awake
  simp only [State.delivered, attempt, Option.isSome_none, Bool.false_eq_true, if_false, State.taken, op, false_and,
    decide_eq_false other]

section Heard

variable {b : Budget} {own src : Addr} {mA : Nat}

theorem Budget.accepts_iff (b : Budget) (src : Addr) (mA : Nat) :
    b.accepts src mA = true
      ↔ b.record = none ∨ ∃ r, b.record = some r ∧ (30 ≤ r.age ∨ r.source = src ∨ mA < r.mA) := by
  unfold Budget.accepts
  cases b.record with
  | none => simp
  | some r =>
    have stale : (!r.fresh) = true ↔ 30 ≤ r.age := by
      simp only [Allowance.fresh, Bool.not_eq_true', decide_eq_false_iff_not, Nat.not_lt]
      exact Iff.rfl
    simp only [Bool.or_eq_true, stale, decide_eq_true_eq, Option.some.injEq, exists_eq_left', reduceCtorEq, false_or, or_assoc]

theorem Budget.hearAllowance_taken {battery : Battery} (h : b.accepts src mA = true) :
    b.hearAllowance src mA battery = { b with record := some { mA := mA, battery := battery, source := src, age := 0 } } :=
  if_pos h

theorem Budget.hearAllowance_passed {battery : Battery} (h : b.accepts src mA = false) :
    b.hearAllowance src mA battery = b := if_neg (by simp [h])

theorem Budget.hearClaim_ignored (h : src = 0 ∨ src = 15) : b.hearClaim own src mA = b ∧ b.hearPresent own src = b := by
  have any : src = 0 ∨ src = 15 ∨ src = own := by
    rcases h with h | h
    · exact .inl h
    · exact .inr (.inl h)
  exact ⟨if_pos any, if_pos any⟩

/-- A table without an entry of an address is the table of the others. -/
theorem table_filter_eq_iff (table : List Neighbour) (src : Addr) :
    table.filter (fun e => e.addr ≠ src) = table ↔ table.any (fun e => e.addr = src) = false := by
  rw [List.filter_eq_self, List.any_eq_false]
  simp

variable (a : src ≠ 0) (c : src ≠ 15) (d : src ≠ own)
include a c d

theorem Budget.hearPresent_other : b.hearPresent own src = b.dropEntry src := by
  simp only [Budget.hearPresent, a, c, d, or_self, if_false]

theorem Budget.hearClaim_zero : b.hearClaim own src 0 = b.dropEntry src := by
  simp only [Budget.hearClaim, a, c, d, or_self, if_false, if_true]

theorem Budget.hearClaim_added (some_ : mA ≠ 0) (new : b.table.any (fun e => e.addr = src) = false) :
    b.hearClaim own src mA = { b with table := b.table ++ [{ addr := src, mA := mA, age := 0 }] } := by
  simp only [Budget.hearClaim, a, c, d, some_, new, or_self, if_false, Bool.false_eq_true]

theorem Budget.hearClaim_replaced (some_ : mA ≠ 0) (known : b.table.any (fun e => e.addr = src) = true) :
    b.hearClaim own src mA
      = { b with table := b.table.map fun e => if e.addr = src then { e with mA := mA, age := 0 } else e } := by
  simp only [Budget.hearClaim, a, c, d, some_, known, or_self, if_false, if_true]

end Heard

theorem batteryOf_none {b : Byte} (h : 2 < b.toNat) : batteryOf b = none := by
  unfold batteryOf
  split
  · omega
  · omega
  · omega
  · rfl

/-- Settles O48: each message by its source and figures, and a tick. -/
theorem budgetHeard : Obligations.BudgetHeard := by
  refine ⟨fun s m src lo hi b attempt awake other => ?_, fun s d due => ?_⟩
  · intro u mA
    have bud : u.bud = s.bud := by simp [u]
    have addr : u.line.addr = s.line.addr := by simp [u]
    have mAEq : currentOf lo hi = mA := by simp [currentOf, mA, wordOf, Config.maxCurrent]
    have allowance : exec (.allowance m src [lo, hi, b]) s = .next (State.reviewed s (u.allowanceHeard src [lo, hi, b])) :=
      congrArg _ (s.delivered_heard m 0 (fun u => u.allowanceHeard src [lo, hi, b]) attempt awake other)
    have claim : exec (.claim m src [lo, hi]) s = .next (State.reviewed s (u.setBud (s.bud.hearClaim s.line.addr src mA))) := by
      refine congrArg _ ((s.delivered_heard m 0 (fun u => u.claimHeard src [lo, hi]) attempt awake other).trans ?_)
      rw [← bud, ← addr, ← mAEq]
      rfl
    have present : exec (.present m src [lo, hi]) s = .next (State.reviewed s (u.setBud (s.bud.hearPresent s.line.addr src))) := by
      refine congrArg _ ((s.delivered_heard m 0 (fun u => u.presentHeard src [lo, hi]) attempt awake other).trans ?_)
      rw [← bud, ← addr]
      rfl
    have unchanged : u.setBud s.bud = u := by rw [← bud]; rfl
    refine ⟨fun st code => ?_, fun code => ?_, fun ignored => ?_, fun a c => ?_⟩
    · have heard : u.allowanceHeard src [lo, hi, b] = u.setBud (s.bud.hearAllowance src mA st) := by
        rw [← bud, ← mAEq]
        simp [State.allowanceHeard, allowanceOf, code]
      refine ⟨fun h => ?_, fun r record fresh source above => ?_⟩
      · refine allowance.trans (reviewed_congr s (heard.trans ?_))
        rw [Budget.hearAllowance_taken ((Budget.accepts_iff _ _ _).2 h), bud]
      · have passed : s.bud.accepts src mA = false := by
          rw [Bool.eq_false_iff, Ne, Budget.accepts_iff, record]
          rintro (h | ⟨_, ⟨⟩, h | h | h⟩)
          · cases h
          · omega
          · exact source h
          · omega
        refine allowance.trans (reviewed_congr s (heard.trans ?_))
        rw [Budget.hearAllowance_passed passed, unchanged]
    · refine allowance.trans (reviewed_congr s ?_)
      simp [State.allowanceHeard, allowanceOf, batteryOf_none code]
    · obtain ⟨claimed, presented⟩ := Budget.hearClaim_ignored (b := s.bud) (own := s.line.addr) (mA := mA) ignored
      rw [claim, present, claimed, presented, unchanged]
      exact ⟨rfl, rfl⟩
    · intro others
      refine ⟨?_, fun zero => ?_, fun some_ new => ?_, fun some_ known => ?_⟩
      · rw [present, Budget.hearPresent_other a c other, Budget.dropEntry, bud]
      · rw [claim, zero, Budget.hearClaim_zero a c other, Budget.dropEntry, bud]
      · rw [claim, Budget.hearClaim_added a c other some_ ((table_filter_eq_iff _ _).1 new), bud]
      · have known : s.bud.table.any (fun e => e.addr = src) = true := by
          rw [← Bool.not_eq_false]
          exact fun h => known ((table_filter_eq_iff _ _).2 h)
        rw [claim, Budget.hearClaim_replaced a c other some_ known, bud]
  · intro u
    exact s.onTimer_running due fun s => s.setBud { s.bud.age with tickTimer := some (s.now + Config.budgetTickPeriod) }

/-! ## Claims handed, granted and settled -/

section Claims

variable {s : State}

theorem Line.carrying_iff (l : Line) (slot : Slot) : l.carrying slot = true ↔ ∃ a, l.attempt = some a ∧ a.slot = slot := by
  unfold Line.carrying
  cases l.attempt <;> simp

theorem Line.handClaim_fresh {l : Line} (mA : Nat) (h : l.claimSlot = none ∨ ¬ l.carrying .claim = true) :
    l.handClaim mA = { l with claimSlot := some { mA := mA, count := 0, next := none } } := by
  unfold Line.handClaim
  cases slot : l.claimSlot with
  | none => rfl
  | some c => exact if_neg (h.resolve_left (by simp [slot]))

theorem Line.handClaim_waits {l : Line} {c : ClaimSlot} (mA : Nat) (slot : l.claimSlot = some c) (carried : l.carrying .claim = true) :
    l.handClaim mA = { l with claimSlot := some { c with next := some mA } } := by
  simp only [Line.handClaim, slot, if_pos carried]

theorem State.setGranted_same (cause : BudgetCause) {mA : Nat} (h : s.bud.granted = mA) :
    s.setGranted mA cause = s.setBud { s.bud with granted := mA } := if_pos h

theorem State.setGranted_changed (cause : BudgetCause) {mA : Nat} (h : s.bud.granted ≠ mA) :
    s.setGranted mA cause = (s.setBud { s.bud with granted := mA }).askNotice (.budget mA s.available cause) := if_neg h

/-- The end of a settle that hands nothing, and one that hands a value (R164). -/
theorem State.settleEnd_keeps {c granted : Nat} (outcome : settleOutcome c s.available s.need = (granted, none)) :
    s.settleEnd c = (s.setBud { s.bud with raise := .none, settleTimer := none }).setGranted granted .settle := by
  simp only [State.settleEnd, outcome, Budget.abandonRaise]

theorem State.settleEnd_hands {c granted mA : Nat} (outcome : settleOutcome c s.available s.need = (granted, some mA)) :
    s.settleEnd c = (((s.setBud { s.bud with raise := .none, settleTimer := none }).handClaim mA).startBarrier).setGranted granted
      .settle := by
  simp only [State.settleEnd, outcome, Budget.abandonRaise]

theorem Raise.isAsking_iff (r : Raise) : r.isAsking = true ↔ ∃ v, r = .asking v := by cases r <;> simp [Raise.isAsking]

end Claims

/-! ## The need -/

section Need

variable {s : State}

theorem State.lineNeed_zero : s.lineNeed 0 = s.msg.setup.motor := if_pos rfl

theorem State.need_of_pattern {p : Dots} (free : s.eng.inProgress = none) (unstopped : s.eng.stoppedLine = none)
    (pattern : s.firstPattern = some p) : s.need = s.lineNeed p := by
  simp only [State.need, free, unstopped, pattern, Option.isSome_none, Bool.false_eq_true, if_false]

theorem State.need_none (free : s.eng.inProgress = none) (unstopped : s.eng.stoppedLine = none)
    (pattern : s.firstPattern = none) : s.need = 0 := by
  simp only [State.need, free, unstopped, pattern, Option.isSome_none, Bool.false_eq_true, if_false]

theorem State.firstPattern_image {id : ImageId} (raw : s.eng.rawWaiting = none) (run : s.eng.run = none)
    (waiting : s.asm.oldestWaiting = some id) : s.firstPattern = some ((s.asm.image id).render 0) := by
  simp [State.firstPattern, raw, run, waiting]

theorem State.runPattern_blank {r : Run} (h : r.image = none ∨ r.line ≠ 0) : s.runPattern r = 0 := by
  unfold State.runPattern
  cases image : r.image with
  | none => rfl
  | some id => exact if_neg (h.resolve_left (by simp [image]))

end Need

theorem Call.loadCounted_iff (c : Call) :
    c.loadCounted = true ↔ c.st = .ansTone ∨ c.st = .loop ∨ (c.st = .online ∨ c.st = .fading) ∧ c.muted = false := by
  unfold Call.loadCounted
  cases c.st <;> simp

theorem State.ceiling_eq (s : State) :
    s.ceiling = if s.bud.battery = .low ∨ s.bud.battery = .critical then s.msg.setup.ceiling / 2 / 10 * 10
      else s.msg.setup.ceiling := by
  unfold State.ceiling
  cases s.bud.battery <;> rfl

/-- An empty record and a stale one both give the allowance in use of R157. -/
theorem Budget.stale_figures {b : Budget} (h : b.record = none ∨ ∃ r, b.record = some r ∧ 30 ≤ r.age) :
    b.allowance = 400 ∧ b.battery = .unknown := by
  rcases h with h | ⟨r, h, age⟩
  · simp [Budget.allowance, Budget.battery, h, Config.staleAllowance]
  · have stale : r.fresh = false := decide_eq_false (Nat.not_lt.2 age)
    simp [Budget.allowance, Budget.battery, h, stale, Config.staleAllowance]

/-- Settles O49: each timer's end by the figures, and what the figures and operations come to. -/
theorem budgetTimers : Obligations.BudgetTimers := by
  refine ⟨fun s sense c d raise due => ?_, fun s d due => ?_, fun s d due => ?_, fun s d due => ?_, fun s => ?_, fun s => ?_,
    fun s mA => ?_, fun s mA cause => ⟨State.setGranted_same cause, State.setGranted_changed cause⟩, fun s sense => ?_⟩
  · intro u free ended hands answers
    have ends {t : State} (h : u.settleEnd c = t) : answers t := by
      subst h
      show execSettleExpiry sense s = _
      simp only [execSettleExpiry, raise]
      exact s.onTimer_running due fun s => (s.settleEnd c).settleReport sense
    refine ⟨fun within meets => ends (State.settleEnd_keeps ?_), fun within short => ends (State.settleEnd_hands ?_),
      fun beyond meets => ends (State.settleEnd_hands ?_), fun beyond short => ends (State.settleEnd_hands ?_)⟩
    · simp [settleOutcome, within, meets]
    · simp [settleOutcome, within, Nat.not_le.2 short]
    · exact (if_neg (Nat.not_le.2 beyond)).trans (if_pos meets)
    · exact (if_neg (Nat.not_le.2 beyond)).trans (if_neg (Nat.not_le.2 short))
  · intro u
    exact s.onTimer_running due fun s => (s.setBud { s.bud with barrierTimer := none }).raiseTest
  · intro u
    have bud : u.bud = s.bud := by simp [u]
    have slot : u.line.claimSlot = s.line.claimSlot := by simp [u]
    have restates : exec .restateExpiry s = .next u.restate := by
      show s.atTimer s.bud.restateTimer State.restate = _
      rw [due]
      rfl
    have waits : (u.bud.raise.isAsking || u.line.claimSlot.isSome) = true
        ↔ (∃ v, s.bud.raise = .asking v) ∨ s.line.claimSlot ≠ none := by
      rw [Bool.or_eq_true, Raise.isAsking_iff, bud, slot, Option.isSome_iff_ne_none]
    have goes (raise : ∀ v, s.bud.raise ≠ .asking v) (empty : s.line.claimSlot = none) :
        ¬ (u.bud.raise.isAsking || u.line.claimSlot.isSome) = true := fun h =>
      (waits.1 h).elim (fun ⟨v, asking⟩ => raise v asking) (· empty)
    refine ⟨fun h => ?_, fun raise empty zero => ?_, fun raise empty some_ => ?_⟩
    · rw [restates, State.restate, if_pos (waits.2 h)]
      rfl
    · rw [restates, State.restate, if_neg (goes raise empty)]
      exact congrArg _ (if_pos (by rw [← bud] at zero; exact zero))
    · rw [restates, State.restate, if_neg (goes raise empty)]
      refine congrArg _ ((if_neg (by rw [← bud] at some_; exact some_)).trans ?_)
      have line : u.line.handClaim u.bud.own = { u.line with claimSlot := some { mA := u.bud.own, count := 0, next := none } } :=
        Line.handClaim_fresh _ (.inl (slot.trans empty))
      have timer : (if u.bud.own = 0 then none else none : Timer) = none := ite_self none
      rw [← bud, ← line]
      exact congrArg (fun t => (u.setBud { u.bud with restateTimer := t }).setLine (u.line.handClaim u.bud.own)) timer
  · intro u released
    have own : u.bud.own = s.bud.own := by simp [u]
    have parks : exec .parkExpiry s = .next (State.reviewed s
        ((u.setBud { u.bud with parkTimer := none }).releaseClaim (decide (0 < u.bud.own)) .park)) :=
      s.onTimer_running due fun s => (s.setBud { s.bud with parkTimer := none }).releaseClaim (decide (0 < s.bud.own)) .park
    rw [parks, own]
    refine ⟨fun some_ => ?_, fun zero => ?_⟩
    · rw [decide_eq_true some_]
      rfl
    · rw [decide_eq_false (by omega)]
      rfl
  · intro forDots
    have lineNeed (p : Dots) : s.lineNeed p = forDots p := rfl
    refine ⟨fun d d_eq => by simp only [State.need, d_eq, lineNeed], fun free => ⟨fun stopped => ?_, fun unstopped =>
      ⟨fun p raw => State.need_of_pattern free unstopped (State.firstPattern_raw raw), fun raw =>
        ⟨fun r run => ⟨fun id image line => ?_, fun blank => ?_⟩, fun run => ⟨fun id waiting => ?_, fun idle => ?_⟩⟩⟩⟩⟩
    · simp only [State.need, free, Option.isSome_iff_ne_none.2 stopped, if_true]
    · rw [State.need_of_pattern free unstopped (State.firstPattern_run raw run), lineNeed]
      simp only [State.runPattern, image, if_pos line]
    · rw [State.need_of_pattern free unstopped (State.firstPattern_run raw run), State.runPattern_blank blank, State.lineNeed_zero]
    · exact State.need_of_pattern free unstopped (State.firstPattern_image raw run waiting)
    · exact State.need_none free unstopped (State.firstPattern_none raw run idle)
  · intro carrier
    refine ⟨fun r record fresh => ?_, Budget.stale_figures, ?_, ?_, s.ceiling_eq, rfl⟩
    · have fresh : r.fresh = true := decide_eq_true fresh
      refine ⟨by simp [Budget.allowance, record, fresh], ?_⟩
      cases battery : r.battery <;> simp [Budget.battery, record, fresh, battery]
    · by_cases counted : carrier
      · rw [State.fixedLoad, (Call.loadCounted_iff _).2 counted, if_pos counted]
        rfl
      · rw [State.fixedLoad, Bool.eq_false_iff.2 fun h => counted ((Call.loadCounted_iff _).1 h), if_neg counted]
        rfl
    · rw [State.available, Budget.tableSum]
      omega
  · intro handed carried
    have carriedIff : s.line.carrying .claim = true ↔ carried := s.line.carrying_iff .claim
    refine ⟨fun h => ?_, fun c slot h => ?_, rfl⟩
    · rw [State.handClaim, Line.handClaim_fresh mA (by rw [carriedIff]; exact h)]
    · rw [State.handClaim, Line.handClaim_waits mA slot (carriedIff.2 h)]
  · intro short h
    refine ⟨fun busy => ?_, fun free held => ?_, fun free unheld => ⟨fun st falls => ?_, fun meets => ?_⟩⟩
    · simp only [State.settleReport, Option.isSome_iff_ne_none.2 busy, if_true, short]
    · have changes : s.settleReport sense = s.changeHolds h sense := by
        simp only [State.settleReport, free, held, Option.isSome_none, Bool.false_eq_true, if_false, if_true, h, short]
      rw [changes]
      by_cases some_ : h.any = true
      · rw [State.changeHolds_some sense some_, if_pos some_]
      · rw [State.changeHolds_ends sense (by simpa using some_) held, if_neg some_]
    · simp only [State.settleReport, free, unheld, Option.isSome_none, Bool.false_eq_true, if_false]
      exact if_pos ⟨st, falls⟩
    · simp only [State.settleReport, free, unheld, Option.isSome_none, Bool.false_eq_true, if_false]
      exact if_neg fun both => meets.elim both.1 (· both.2)

end Sys2Proof.Machine

/-! PROOFS. What a step ends with (R162, R168, R183). -/

namespace Sys2Proof.Machine

/-! ## The raise test -/

section Raise

variable {s : State}

theorem Raise.isNone_eq (r : Raise) : r.isNone = decide (r = .none) := by cases r <;> rfl

theorem State.raisePassedOver_iff (s : State) : s.raisePassedOver = true
    ↔ s.bud.raise ≠ .none ∨ s.bud.barrierTimer ≠ none ∨ s.line.listenOnly = true ∨ s.msg.op = .doze := by
  simp [State.raisePassedOver, Raise.isNone_eq, Option.isSome_iff_ne_none, or_assoc]

theorem State.raiseWanted_iff (s : State) : s.raiseWanted = true
    ↔ (s.eng.st = .claiming ∨ s.eng.st = .printing ∨ s.eng.holds.budget = true)
      ∧ 0 < s.desired ∧ s.need ≤ s.desired ∧ (s.bud.granted < s.need ∨ s.bud.granted + 100 ≤ s.desired) := by
  simp only [State.raiseWanted, Bool.and_eq_true, Bool.or_eq_true, decide_eq_true_eq, or_assoc, and_assoc]
  exact Iff.rfl

theorem State.raiseTest_passes (h : s.raisePassedOver = true ∨ s.raiseWanted = false) : s.raiseTest = s := by
  refine if_neg fun both => ?_
  rw [Bool.and_eq_true, Bool.not_eq_true'] at both
  obtain ⟨open_, wanted⟩ := both
  exact h.elim (by simp [open_]) (by simp [wanted])

/-- A raise begins: desired is handed as the own claim; it is above 0, so the restate timer runs on. -/
theorem State.raiseTest_raises (open_ : s.raisePassedOver = false) (wanted : s.raiseWanted = true) :
    s.raiseTest = (s.setBud { s.bud with raise := .asking s.desired, own := s.desired }).setLine (s.line.handClaim s.desired) := by
  obtain ⟨-, some_, -⟩ := s.raiseWanted_iff.1 wanted
  have timer : (if s.desired = 0 then none else s.bud.restateTimer) = s.bud.restateTimer := if_neg (by omega)
  refine (if_pos (by rw [open_, wanted]; rfl)).trans ?_
  exact congrArg (fun t => (s.setBud { s.bud with raise := .asking s.desired, own := s.desired, restateTimer := t }).setLine
    (s.line.handClaim s.desired)) timer

end Raise

theorem State.parks_iff (s : State) : s.parks = true ↔ s.eng.st = .idle ∧ (0 < s.bud.own ∨ 0 < s.bud.granted) := by
  simp [State.parks]

/-! ## What the end of a step touches -/

/-- The state `s` with what the end of a step may set taken from `t`. -/
def State.endingAs (s t : State) : State :=
  { s with
    pool := { s.pool with fwqInMessage := t.pool.fwqInMessage }
    kbd := { s.kbd with inMessage := t.kbd.inMessage }
    bud := { s.bud with raise := t.bud.raise, own := t.bud.own, parkTimer := t.bud.parkTimer }
    line := { s.line with claimSlot := t.line.claimSlot, keysSlot := t.line.keysSlot, textSlot := t.line.textSlot }
    msg := { s.msg with
      keysTimer := t.msg.keysTimer, keysDue := t.msg.keysDue, textTimer := t.msg.textTimer, textDue := t.msg.textDue } }

/-- Nothing changed but what the end of a step may set. -/
def EndOnly (s t : State) : Prop := t = s.endingAs t

theorem EndOnly.refl (s : State) : EndOnly s s := rfl

theorem EndOnly.trans {s t u : State} (first : EndOnly s t) (second : EndOnly t u) : EndOnly s u := by
  have same : t.endingAs u = (s.endingAs t).endingAs u := congrArg (State.endingAs · u) (show t = s.endingAs t from first)
  exact Eq.trans second same

theorem EndOnly.ite {s t u : State} (c : Prop) [Decidable c] (yes : EndOnly s t) (no : EndOnly s u) :
    EndOnly s (if c then t else u) := by
  split
  · exact yes
  · exact no

theorem Line.handClaim_claimSlot (l : Line) (mA : Nat) :
    l.handClaim mA = { l with claimSlot := (l.handClaim mA).claimSlot } := by
  unfold Line.handClaim
  (repeat' split) <;> rfl

theorem State.raiseTest_endOnly (s : State) : EndOnly s s.raiseTest := by
  by_cases h : s.raisePassedOver = true ∨ s.raiseWanted = false
  · rw [State.raiseTest_passes h]
    exact .refl s
  · obtain ⟨open_, wanted⟩ := not_or.1 h
    rw [State.raiseTest_raises (by simpa using open_) (by simpa using wanted), Line.handClaim_claimSlot]
    rfl

theorem State.budgetReview_endOnly (before s : State) : EndOnly s (State.budgetReview before s) :=
  .ite _ (.refl s) s.raiseTest_endOnly

theorem State.parkReview_endOnly (before s : State) : EndOnly s (State.parkReview before s) :=
  .ite _ (.ite _ (.refl s) rfl) rfl

theorem State.buildKeys_endOnly (s : State) : EndOnly s s.buildKeys := by
  unfold State.buildKeys
  exact .ite _ (.ite _ (by rfl) (by rfl)) (.refl s)

theorem State.keysGather_endOnly (before s : State) : EndOnly s (State.keysGather before s) :=
  .ite _ (.trans (.ite _ (by rfl) (.refl s)) (State.buildKeys_endOnly _)) (.refl s)

theorem State.buildText_endOnly (s : State) : EndOnly s s.buildText := by
  unfold State.buildText
  exact .ite _ (.ite _ (by rfl) (by rfl)) (.refl s)

theorem State.textDueNow_endOnly (s : State) : EndOnly s s.textDueNow := .ite _ rfl (.refl s)

theorem State.textGather_endOnly (before s : State) : EndOnly s (State.textGather before s) :=
  .ite _ (.trans (.trans (.ite _ (by rfl) (.refl s)) (State.textDueNow_endOnly _)) (State.buildText_endOnly _)) (.refl s)

theorem State.reviewed_endOnly (before s : State) : EndOnly s (State.reviewed before s) :=
  .trans (.trans (.trans (State.budgetReview_endOnly before s) (State.parkReview_endOnly before _))
    (State.keysGather_endOnly before _)) (State.textGather_endOnly before _)

/-- Settles O5: the frame of each part of a step's end, and each part by its condition. -/
theorem endOfStep : Obligations.EndOfStep := by
  refine ⟨State.reviewed_endOnly, fun before s => ?_, fun s => ?_⟩
  · intro inputs parks
    have same : inputs s = inputs before ↔ s.raiseInputs = before.raiseInputs := by
      simp only [inputs, State.raiseInputs, Raise.isNone_eq, RaiseInputs.mk.injEq, Prod.mk.injEq, Bool.not_inj_iff]
    have parksIff (x : State) : x.parks = true ↔ parks x := x.parks_iff
    let s1 := State.budgetReview before s
    refine ⟨s1, State.parkReview before s1, fun h => if_pos (same.1 h), fun h => if_neg fun e => h (same.2 e), fun now was => ?_,
      fun now was => ?_, fun off => ?_, rfl⟩
    · exact (if_pos ((parksIff _).2 now)).trans (if_pos ((parksIff _).2 was))
    · exact (if_pos ((parksIff _).2 now)).trans (if_neg fun h => was ((parksIff _).1 h))
    · exact if_neg fun h => off ((parksIff _).1 h)
  · intro passed wanted
    refine ⟨fun h => State.raiseTest_passes ?_, fun open_ want => ?_⟩
    · exact h.imp s.raisePassedOver_iff.2 fun h => Bool.eq_false_iff.2 fun w => h (s.raiseWanted_iff.1 w)
    · rw [State.raiseTest_raises (Bool.eq_false_iff.2 fun h => open_ (s.raisePassedOver_iff.1 h)) (s.raiseWanted_iff.2 want)]
      exact ⟨rfl, fun h => Line.handClaim_fresh _ (h.imp_right (by simp)), fun c slot => Line.handClaim_waits _ slot, rfl⟩

end Sys2Proof.Machine

/-! PROOFS. The gathers of key records and received cells (R10, R51, R183). -/

namespace Sys2Proof.Machine

section Gathers

variable {before s : State}

theorem State.gathers_iff (s : State) : s.gathers = true ↔ s.msg.op = .run ∧ s.line.listenOnly = false := by
  simp [State.gathers]

theorem State.keysGather_off (h : s.gathers = false) : State.keysGather before s = s := if_neg (by simp [h])

theorem State.textGather_off (h : s.gathers = false) : State.textGather before s = s := if_neg (by simp [h])

theorem State.keysGather_starts (h : s.gathers = true) (rises : before.keysUnsent = 0 ∧ 0 < s.keysUnsent) :
    State.keysGather before s = (s.setMsg { s.msg with keysTimer := some (s.now + 10000) }).buildKeys :=
  (if_pos h).trans (congrArg State.buildKeys (if_pos rises))

theorem State.keysGather_runs (h : s.gathers = true) (steady : ¬ (before.keysUnsent = 0 ∧ 0 < s.keysUnsent)) :
    State.keysGather before s = s.buildKeys :=
  (if_pos h).trans (congrArg State.buildKeys (if_neg steady))

theorem State.buildKeys_waits (h : s.msg.keysDue = false ∨ s.kbd.inMessage ≠ 0 ∨ s.kbd.fifo = []) : s.buildKeys = s := by
  refine if_neg fun all => ?_
  rw [Bool.and_eq_true, Bool.and_eq_true, decide_eq_true_eq, decide_eq_true_eq, State.keysUnsent] at all
  obtain ⟨⟨due, sent⟩, unsent⟩ := all
  rcases h with h | h | h
  · simp [h] at due
  · exact h sent
  · simp [h] at unsent

theorem State.buildText_waits (h : s.msg.textDue = false ∨ s.pool.fwqInMessage ≠ 0 ∨ chainCells s.pool.fwq = []) :
    s.buildText = s := by
  refine if_neg fun all => ?_
  rw [Bool.and_eq_true, Bool.and_eq_true, decide_eq_true_eq, decide_eq_true_eq, Pool.unsentText] at all
  obtain ⟨⟨due, sent⟩, unsent⟩ := all
  rcases h with h | h | h
  · simp [h] at due
  · exact h sent
  · simp [h] at unsent

theorem State.buildKeys_builds (due : s.msg.keysDue = true) (sent : s.kbd.inMessage = 0) (some_ : s.kbd.fifo ≠ []) :
    s.buildKeys = ((s.setKbd { s.kbd with inMessage := min 8 s.kbd.fifo.length }).setLine { s.line with
        keysSlot := some { dest := s.msg.setup.controller, records := s.kbd.fifo.take 8, count := 0 } }).setMsg
          (if s.kbd.fifo.length ≤ 8 then { s.msg with keysTimer := none, keysDue := false } else s.msg) := by
  have length : (s.kbd.fifo.take 8).length = min 8 s.kbd.fifo.length := List.length_take
  have builds : (s.msg.keysDue && s.kbd.inMessage = 0 && decide (0 < s.keysUnsent)) = true := by
    have := List.length_pos_iff.2 some_
    simp only [due, sent, State.keysUnsent, decide_true, Bool.and_self, Bool.true_and, decide_eq_true_eq]
    omega
  rw [← length]
  refine (if_pos builds).trans ?_
  by_cases whole : s.kbd.fifo.length ≤ 8
  · rw [if_pos whole]
    refine if_pos ?_
    show s.kbd.fifo.length - (s.kbd.fifo.take 8).length = 0
    omega
  · rw [if_neg whole]
    refine if_neg ?_
    show ¬ s.kbd.fifo.length - (s.kbd.fifo.take 8).length = 0
    omega

theorem State.buildText_builds (due : s.msg.textDue = true) (sent : s.pool.fwqInMessage = 0) (some_ : chainCells s.pool.fwq ≠ []) :
    s.buildText = ((s.setPool { s.pool with fwqInMessage := min 32 (chainCells s.pool.fwq).length }).setLine { s.line with
        textSlot := some { dest := s.msg.setup.controller, cells := (chainCells s.pool.fwq).take 32, count := 0 } }).setMsg
          (if (chainCells s.pool.fwq).length ≤ 32 then { s.msg with textTimer := none, textDue := false } else s.msg) := by
  have length : ((chainCells s.pool.fwq).take 32).length = min 32 (chainCells s.pool.fwq).length := List.length_take
  have builds : (s.msg.textDue && s.pool.fwqInMessage = 0 && decide (0 < s.pool.unsentText)) = true := by
    have := List.length_pos_iff.2 some_
    simp only [due, sent, Pool.unsentText, decide_true, Bool.and_self, Bool.true_and, decide_eq_true_eq]
    omega
  rw [← length]
  refine (if_pos builds).trans ?_
  by_cases whole : (chainCells s.pool.fwq).length ≤ 32
  · rw [if_pos whole]
    refine if_pos ?_
    show (chainCells s.pool.fwq).length - ((chainCells s.pool.fwq).take 32).length = 0
    omega
  · rw [if_neg whole]
    refine if_neg ?_
    show ¬ (chainCells s.pool.fwq).length - ((chainCells s.pool.fwq).take 32).length = 0
    omega

end Gathers

/-- Settles O56: the timers, what the end of a step makes of each gather, and the messages built. -/
theorem gatherExpiry : Obligations.GatherExpiry := by
  refine ⟨fun s d due => ?_, fun s d due => ?_, fun before s => ?_, fun s => ⟨State.buildKeys_waits, State.buildKeys_builds⟩,
    fun s => ⟨State.buildText_waits, State.buildText_builds⟩⟩
  · intro u
    exact s.onTimer_running due fun s => s.setMsg { s.msg with keysTimer := none, keysDue := true }
  · intro u
    exact s.onTimer_running due fun s => s.setMsg { s.msg with textTimer := none, textDue := true }
  · intro keys cells runs
    have gathers : runs → s.gathers = true := s.gathers_iff.2
    refine ⟨fun off => ?_, fun on was now => State.keysGather_starts (gathers on) ⟨was, now⟩, fun on steady =>
      State.keysGather_runs (gathers on) fun h => ?_, fun on => ?_⟩
    · have off : s.gathers = false := Bool.eq_false_iff.2 fun h => off (s.gathers_iff.1 h)
      exact ⟨State.keysGather_off off, State.textGather_off off⟩
    · exact steady.elim (· h.1) fun none => absurd h.2 (by rw [show s.keysUnsent = 0 from none]; omega)
    · let timer := if before.pool.unsentText = 0 ∧ 0 < s.pool.unsentText then
        s.setMsg { s.msg with textTimer := some (s.now + 20000) } else s
      have pool : timer.pool = s.pool := by
        simp only [timer]
        split <;> rfl
      have due : timer.textDueNow = if 32 ≤ cells s then timer.setMsg { timer.msg with textDue := true } else timer := by
        rw [State.textDueNow, pool]
        rfl
      refine ⟨timer, timer.textDueNow, fun was now => if_pos ⟨was, now⟩, fun steady => if_neg fun h => ?_, fun many => ?_,
        fun few => ?_, if_pos (gathers on)⟩
      · exact steady.elim (· h.1) fun none => absurd h.2 (by rw [show s.pool.unsentText = 0 from none]; omega)
      · rw [due, if_pos many]
      · rw [due, if_neg (Nat.not_le.2 few)]

end Sys2Proof.Machine

/-! PROOFS. SETUP (R189, R191, R195). -/

namespace Sys2Proof.Machine

/-! ## Fields of a body -/

theorem takeRange_val (lo hi n : Nat) : (takeRange lo hi n).val = max lo (min hi n) := rfl

theorem takeRange_adjusted (lo hi n : Nat) : (takeRange lo hi n).adjusted = true ↔ (takeRange lo hi n).val ≠ n := by
  simp [takeRange]

theorem takeForm_val (n : Nat) : (takeForm n).val = if n = 0 then 0 else max 20 (min 132 n) := by
  unfold takeForm
  split <;> rfl

theorem takeForm_adjusted (n : Nat) : (takeForm n).adjusted = true ↔ (takeForm n).val ≠ n := by
  unfold takeForm
  split
  next zero => simp [zero]
  next => exact takeRange_adjusted 20 132 n

theorem takeTarget_val {n : Nat} (h : n < 4) :
    (takeCode (targetOf n) .line).val = if n = 1 then .controller else if n = 2 then .both else .line := by
  obtain rfl | rfl | rfl | rfl : n = 0 ∨ n = 1 ∨ n = 2 ∨ n = 3 := by omega
  all_goals rfl

theorem takeTarget_adjusted {n : Nat} (h : n < 4) : (takeCode (targetOf n) .line).adjusted = true ↔ n = 3 := by
  obtain rfl | rfl | rfl | rfl : n = 0 ∨ n = 1 ∨ n = 2 ∨ n = 3 := by omega
  all_goals decide

theorem takeCopy_val {n : Nat} (h : n < 4) :
    (takeCode (copyOf n) .print).val = if n = 1 then .controller else if n = 2 then .both else .print := by
  obtain rfl | rfl | rfl | rfl : n = 0 ∨ n = 1 ∨ n = 2 ∨ n = 3 := by omega
  all_goals rfl

theorem takeCopy_adjusted {n : Nat} (h : n < 4) : (takeCode (copyOf n) .print).adjusted = true ↔ n = 3 := by
  obtain rfl | rfl | rfl | rfl : n = 0 ∨ n = 1 ∨ n = 2 ∨ n = 3 := by omega
  all_goals decide

/-! ## The notice routing -/

theorem takeRoutes_eq (body : List Byte) :
    takeRoutes body = (List.range 10).map fun i => takeRoute (routeBits body i) ((noticeKinds[i]?).getD .budget) := rfl

theorem noticeKinds_default {i : Nat} (h : i < 10) :
    ((noticeKinds[i]?).getD .budget).defaultRoute = if i = 9 then .all else .controller := by
  revert i
  decide

theorem takeRoute_adjusted {code : Nat} (h : code < 4) (kind : NoticeKind) :
    (takeRoute code kind).adjusted = true ↔ code = 3 := by
  obtain rfl | rfl | rfl | rfl : code = 0 ∨ code = 1 ∨ code = 2 ∨ code = 3 := by omega
  all_goals simp [takeRoute]

theorem routeBits_lt (body : List Byte) (i : Nat) : routeBits body i < 4 := Nat.mod_lt _ (by decide)

theorem takeRoutes_adjusted (body : List Byte) :
    (takeRoutes body).any Taken.adjusted = true ↔ ∃ i, i < 10 ∧ routeBits body i = 3 := by
  rw [takeRoutes_eq, List.any_map, List.any_eq_true]
  simp only [List.mem_range, Function.comp_apply, takeRoute_adjusted (routeBits_lt body _)]

/-! ## The controller's address -/

section Controller

variable {value : Byte} {own sender : Addr}

theorem takeController_sender (h : value.toNat = 0 ∨ value.toNat = 15 ∨ value.toNat = own.toNat) :
    (takeController value own sender).val = sender := by
  have small : own.toNat < 16 := own.isLt
  unfold takeController
  by_cases zero : value = 0
  · rw [if_pos zero]
  have low : ¬ 16 ≤ value.toNat := by
    rcases h with h | h | h <;> omega
  have same : value.toNat = own.toNat ∨ value = 15 := by
    rcases h with h | h | h
    · exact absurd (by bv_omega) zero
    · exact .inr (by bv_omega)
    · exact .inl h
  rw [if_neg zero, if_neg low, if_pos same]

theorem takeController_value (low : 1 ≤ value.toNat) (high : value.toNat ≤ 14) (other : value.toNat ≠ own.toNat) :
    (takeController value own sender).val.toNat = value.toNat := by
  have notZero : value ≠ 0 := by bv_omega
  have not15 : value ≠ 15 := by bv_omega
  simp only [takeController, notZero, not15, other, or_self, if_false, if_neg (show ¬ 16 ≤ value.toNat by omega),
    BitVec.toNat_ofNat]
  omega

theorem takeController_above (h : 16 ≤ value.toNat) :
    1 ≤ (takeController value own sender).val.toNat ∧ (takeController value own sender).val.toNat ≤ 14 := by
  have notZero : value ≠ 0 := by bv_omega
  simp only [takeController, notZero, h, if_false, if_true, controllerFree, BitVec.toNat_ofNat]
  omega

theorem takeController_adjusted :
    (takeController value own sender).adjusted = true
      ↔ value.toNat ≠ 0 ∧ (value.toNat = own.toNat ∨ 15 ≤ value.toNat) := by
  have small : own.toNat < 16 := own.isLt
  have zeroIff : value = 0 ↔ value.toNat = 0 := by bv_omega
  have fifteenIff : value = 15 ↔ value.toNat = 15 := by bv_omega
  unfold takeController
  split
  next zero =>
    simp [zeroIff.1 zero]
  next some_ =>
    rw [zeroIff] at some_
    split
    next high =>
      simp only [true_iff]
      omega
    next low =>
      split
      next same =>
        rw [fifteenIff] at same
        simp only [true_iff]
        omega
      next differs =>
        rw [fifteenIff] at differs
        simp only [Bool.false_eq_true, false_iff]
        omega

end Controller

/-! ## The record -/

/-- The record that a body gives is within its ranges (R189). -/
theorem setupOf_law (body : List Byte) (own sender : Addr) : (setupOf body own sender).1.Law := by
  constructor
  case form =>
    show (takeForm _).val = 0 ∨ 20 ≤ (takeForm _).val ∧ (takeForm _).val ≤ 132
    rw [takeForm_val]
    split
    · exact .inl rfl
    · exact .inr (by omega)
  case high =>
    show (takeRange 4 24 _).val + 8 ≤ (takeRange ((takeRange 4 24 _).val + 8) 48 _).val
      ∧ (takeRange ((takeRange 4 24 _).val + 8) 48 _).val ≤ 48
    simp only [takeRange_val]
    omega
  case routes =>
    show ((takeRoutes body).map Taken.val).length = 10
    rw [takeRoutes_eq]
    simp
  all_goals
    simp only [setupOf, takeRange_val]
    omega

theorem Setup.default_law (own : Addr) : (Setup.default own).Law := by
  constructor
  all_goals simp [Setup.default]

theorem Move.setupLaw {L : Label → Prop} {d e : Digest} (h : Move L d e) (law : d.setup.Law) : e.setup.Law := by
  cases h with
  | setup => exact setupOf_law _ _ _
  | powerUp => exact Setup.default_law _
  | _ => exact law

/-- The fields of the record, by the characters of the body (R189, R195). -/
theorem setupOf_fields (body : List Byte) (own sender : Addr) (r : Setup) (same : (setupOf body own sender).1 = r) :
    r.formLength = (if (charAt body 7).toNat = 0 then 0 else max 20 (min 132 (charAt body 7).toNat))
      ∧ r.routing.target = (if (charAt body 21).toNat / 2 % 4 = 1 then .controller
          else if (charAt body 21).toNat / 2 % 4 = 2 then .both else .line)
      ∧ r.routing.copy = (if (charAt body 21).toNat / 8 % 4 = 1 then .controller
          else if (charAt body 21).toNat / 8 % 4 = 2 then .both else .print) := by
  subst same
  exact ⟨takeForm_val _, takeTarget_val (Nat.mod_lt _ (by decide)), takeCopy_val (Nat.mod_lt _ (by decide))⟩

/-- A value of the body had to be changed (R189). -/
theorem setupOf_adjusted (body : List Byte) (own sender : Addr) (r : Setup) (same : (setupOf body own sender).1 = r) :
    (setupOf body own sender).2 = true ↔
      ((charAt body 0).toNat ≠ 0 ∧ ((charAt body 0).toNat = own.toNat ∨ 15 ≤ (charAt body 0).toNat))
        ∨ r.dotOhms ≠ wordAt body 1 ∨ r.ceiling ≠ 10 * wordAt body 3 ∨ r.motor ≠ 10 * (charAt body 5).toNat
        ∨ r.darkness ≠ (charAt body 6).toNat ∨ r.formLength ≠ (charAt body 7).toNat ∨ r.flushSeconds ≠ (charAt body 9).toNat
        ∨ r.repeatDelay ≠ 50 * (charAt body 10).toNat ∨ r.repeatRate ≠ (charAt body 11).toNat
        ∨ r.lowMark ≠ (charAt body 14).toNat ∨ r.highMark ≠ (charAt body 15).toNat ∨ r.carrierWait ≠ (charAt body 16).toNat
        ∨ r.fadeLimit ≠ 10 * (charAt body 17).toNat ∨ (∃ i, i < 10 ∧ routeBits body i = 3)
        ∨ (charAt body 21).toNat / 2 % 4 = 3 ∨ (charAt body 21).toNat / 8 % 4 = 3 := by
  subst same
  rw [← takeController_adjusted (sender := sender), ← takeRoutes_adjusted,
    ← takeTarget_adjusted (Nat.mod_lt ((charAt body 21).toNat / 2) (show 0 < 4 by decide)),
    ← takeCopy_adjusted (Nat.mod_lt ((charAt body 21).toNat / 8) (show 0 < 4 by decide))]
  simp only [setupOf, ← takeRange_adjusted, ← takeForm_adjusted, Bool.or_eq_true, or_assoc]

/-! ## The request -/

theorem State.enterRun_eq (s : State) : s.enterRun = s.setMsg { s.msg with
    op := .run
    keysTimer := if s.kbd.inMessage < s.kbd.fifo.length ∧ s.line.listenOnly = false then some (s.now + 10000)
      else s.msg.keysTimer } := by
  have unsent : (decide (0 < s.keysUnsent) && !s.line.listenOnly) = true
      ↔ s.kbd.inMessage < s.kbd.fifo.length ∧ s.line.listenOnly = false := by
    rw [Bool.and_eq_true, decide_eq_true_eq, Bool.not_eq_true']
    refine and_congr ?_ Iff.rfl
    show 0 < s.kbd.fifo.length - s.kbd.inMessage ↔ _
    omega
  by_cases starts : s.kbd.inMessage < s.kbd.fifo.length ∧ s.line.listenOnly = false
  · rw [if_pos starts]
    exact congrArg (fun t => s.setMsg { s.msg with op := .run, keysTimer := t }) (if_pos (unsent.2 starts))
  · rw [if_neg starts]
    exact congrArg (fun t => s.setMsg { s.msg with op := .run, keysTimer := t }) (if_neg fun h => starts (unsent.1 h))

/-- A SETUP taken, `f` being what its routing makes of a queued notice (R187, R189, R191). -/
theorem State.takeSetup_eq {s : State} {r : Setup} {f : NoticeEntry → Option NoticeEntry}
    (reroutes : ∀ e, (r.routeDest e.notice.kind).map (fun d => { e with dest := d }) = f e) :
    s.takeSetup r = (((s.setMsg { s.msg with
        setup := r, op := .run, window := .closed, windowTimer := none
        keysTimer := if s.kbd.inMessage < s.kbd.fifo.length ∧ s.line.listenOnly = false then some (s.now + 10000)
          else s.msg.keysTimer }).setRouter { s.router with routing := r.routing }).setAsm
          { s.asm with stagedDarkness := r.darkness, formPosition := 0 }).setLine
            { s.line with notices := s.line.notices.filterMap f } := by
  obtain rfl : (fun e : NoticeEntry => (r.routeDest e.notice.kind).map fun d => { e with dest := d }) = f := funext reroutes
  rw [State.takeSetup, State.closeWindow, State.enterRun_eq]
  rfl

theorem Setup.eq_with {r : Setup} {form : Nat} {routes : List NoticeRoute} {routing : Routing} (a : r.formLength = form)
    (b : r.routes = routes) (c : r.routing = routing) :
    r = { r with formLength := form, routes := routes, routing := routing } := by
  subst a b c
  rfl

theorem Routing.eq_with {r : Routing} {target : KeyTarget} {copy : ReceiveCopy} (a : r.target = target) (b : r.copy = copy) :
    r = { r with target := target, copy := copy } := by
  subst a b
  rfl

/-- Settles O57: SETUP by the window and the length, the record field by field, and the record's law by the moves. -/
theorem setupTaken : Obligations.SetupTaken := by
  refine ⟨fun s m src body attempt awake other room => ?_, fun s t law h => ?_⟩
  · intro u
    have msg : u.msg = s.msg := by simp [u]
    have addr : u.line.addr = s.line.addr := by simp [u]
    have taken : exec (.setup m src body) s = .next (State.reviewed s (u.setupRequest src body)) :=
      congrArg _ (s.delivered_heard m s.line.addr (fun u => u.setupRequest src body) attempt awake other)
    have notFull : ¬ u.queueFull = true := by
      have replies : u.line.replies = s.line.replies := by simp [u]
      simpa [State.queueFull, replies, Config.replyQueueSize] using room
    refine ⟨fun closed => ?_, fun opened short => ?_, fun opened length => ?_⟩
    · refine taken.trans (reviewed_congr s ((if_neg notFull).trans (if_pos ?_)))
      rw [msg, closed]
    · refine taken.trans (reviewed_congr s ((if_neg notFull).trans ((if_neg ?_).trans (if_neg short))))
      rwa [msg]
    · intro c option_ routeCode target copy
      have answered : u.setupRequest src body = (u.takeSetup (setupOf body s.line.addr src).1).reply src 0x10
          (if (setupOf body s.line.addr src).2 then .adjusted else .accepted) := by
        refine (if_neg notFull).trans ((if_neg ?_).trans ((if_pos length).trans ?_))
        · rwa [msg]
        · rw [addr]
          rfl
      let r := (setupOf body s.line.addr src).1
      have adjusted := setupOf_adjusted body s.line.addr src r rfl
      obtain ⟨form, targetEq, copyEq⟩ := setupOf_fields body s.line.addr src r rfl
      refine ⟨r, u.takeSetup r, ?_, fun h => takeController_sender (by tauto), takeController_value, takeController_above, ?_,
        setupOf_law _ _ _, ?_⟩
      · refine Setup.eq_with form ?_ (Routing.eq_with targetEq copyEq)
        refine (congrArg (List.map Taken.val) (takeRoutes_eq body)).trans ?_
        rw [List.map_map]
        refine List.map_congr_left fun i mem => ?_
        have default_ := noticeKinds_default (List.mem_range.1 mem)
        have small := routeBits_lt body i
        rw [Function.comp_apply, show routeCode i = routeBits body i from rfl]
        generalize routeBits body i = code at small
        obtain rfl | rfl | rfl | rfl : code = 0 ∨ code = 1 ∨ code = 2 ∨ code = 3 := by omega
        · rfl
        · rfl
        · rfl
        · exact default_
      · have listenOnly : u.line.listenOnly = s.line.listenOnly := by simp [u]
        have notices : u.line.notices = s.line.notices := by simp [u]
        have kbd : u.kbd = s.kbd := by simp [u]
        have router : u.router = s.router := by simp [u]
        have asm : u.asm = s.asm := by simp [u]
        rw [← msg, ← listenOnly, ← notices, ← kbd, ← router, ← asm]
        refine State.takeSetup_eq fun e => ?_
        cases route : r.route e.notice.kind <;> simp [Setup.routeDest, route]
      · intro changed
        have changes : (setupOf body s.line.addr src).2 = true ↔ changed := adjusted
        refine ⟨fun h => ?_, fun h => ?_⟩
        · rw [taken, answered, if_pos (changes.2 h)]
        · rw [taken, answered, if_neg (mt changes.1 h)]
  · exact step_keeps (P := fun d => d.setup.Law) Move.setupLaw (fun _ _ law => law) h law

end Sys2Proof.Machine

/-! PROOFS. DOZE (R170, R193). -/

namespace Sys2Proof.Machine

/-! ## When a DOZE is taken -/

theorem Image.busy_eq_false_iff (i : Image) :
    i.busy = false ↔ i.st = .free ∨ (i.st = .opened ∧ i.isEmpty = true) := by
  unfold Image.busy
  cases i.st <;> simp

theorem State.dozeReady_iff (s : State) : s.dozeReady = true
    ↔ s.eng.st = .idle ∧ (s.asm.image1.st = .free ∨ (s.asm.image1.st = .opened ∧ s.asm.image1.isEmpty = true))
      ∧ (s.asm.image2.st = .free ∨ (s.asm.image2.st = .opened ∧ s.asm.image2.isEmpty = true))
      ∧ (s.call.st = .idle ∨ s.call.st = .ready) ∧ s.pool.txq = [] ∧ s.pool.prq = [] ∧ s.pool.fwq = [] := by
  simp only [← Image.busy_eq_false_iff, State.dozeReady, Bool.and_eq_true, Bool.or_eq_true, Bool.not_eq_true', decide_eq_true_eq,
    List.isEmpty_iff, and_assoc]

theorem State.dozeReady_congr {s t : State} (eng : t.eng = s.eng) (asm : t.asm = s.asm) (call : t.call = s.call)
    (pool : t.pool = s.pool) : t.dozeReady = s.dozeReady := by
  simp only [State.dozeReady, eng, asm, call, pool]

/-! ## The release -/

section Release

variable {s : State}

/-- The Budget Unit with its claim released (R170). -/
def Budget.released (b : Budget) : Budget :=
  { b with
    own := 0, granted := 0, raise := .none, settleTimer := none, restateTimer := none, parkTimer := none, barrierTimer := none }

/-- Asking for a notice changes the Line Interface by it and the setup record alone, so it commutes with what the Budget Unit
sets. -/
theorem State.askNotice_setBud (s : State) (b : Budget) (n : Notice) : (s.askNotice n).setBud b = (s.setBud b).askNotice n := by
  rw [s.askNotice_eq, (s.setBud b).askNotice_eq, State.askNotice_line_congr (s := s) (t := s.setBud b) rfl rfl]
  rfl

theorem State.askNotice_claimSlot (s : State) (n : Notice) : (s.askNotice n).line.claimSlot = s.line.claimSlot := by
  unfold State.askNotice
  (repeat' split) <;> rfl

/-- The state with its claim released, before the notice. -/
def State.releasedTo (s : State) (hand : Bool) : State :=
  (s.setBud s.bud.released).setLine
    (if hand then { s.line with claimSlot := some { mA := 0, count := 0, next := none } } else s.line)

theorem State.dozeRelease_eq (free : s.line.attempt = none) {hand : Bool}
    (hands : (!s.line.listenOnly && (decide (0 < s.bud.own) || decide (0 < s.bud.completed))) = hand) :
    s.dozeRelease = if s.bud.granted = 0 then s.releasedTo hand
      else (s.releasedTo hand).askNotice (.budget 0 s.available .doze) := by
  let handed : State := if hand then (s.setBud { s.bud.abandonRaise with own := 0 }).handClaim 0
    else s.setBud { s.bud.abandonRaise with own := 0 }
  let rest (t : State) : State :=
    t.setBud { t.bud with restateTimer := none, parkTimer := none, settleTimer := none, barrierTimer := none }
  have releases : s.dozeRelease = rest (handed.setGranted 0 .doze) := by
    rw [State.dozeRelease, hands]
    rfl
  have slot : s.line.handClaim 0 = { s.line with claimSlot := some { mA := 0, count := 0, next := none } } :=
    Line.handClaim_fresh 0 (.inr (by simp [Line.carrying, free]))
  have granted : handed.bud.granted = s.bud.granted := by
    simp only [handed]
    split <;> rfl
  have available : handed.available = s.available := by
    simp only [handed]
    split <;> rfl
  have released : rest (handed.setBud { handed.bud with granted := 0 }) = s.releasedTo hand := by
    cases hand with
    | false => rfl
    | true =>
      show ((s.setBud s.bud.released).setLine (s.line.handClaim 0)) = _
      rw [slot]
      rfl
  rw [releases]
  by_cases none : s.bud.granted = 0
  · rw [if_pos none, State.setGranted_same .doze (granted.trans none), released]
  · rw [if_neg none, State.setGranted_changed .doze (by rw [granted]; exact none), ← released, available]
    have bud : ((handed.setBud { handed.bud with granted := 0 }).askNotice (.budget 0 s.available .doze)).bud
        = { handed.bud with granted := 0 } := by simp
    simp only [rest, bud]
    exact State.askNotice_setBud _ _ _

end Release

/-- A DOZE request of no length but 0, by its own rule. -/
theorem State.Takes.doze {s : State} {src : Addr} (takes : s.Takes src) (m : Moment) {t : State} {a : Answer}
    (result : (s.heard m.t).dozeRule = (t, a)) :
    exec (.doze m src []) s = .next (State.reviewed s (t.reply src kindDoze a)) :=
  takes.answers m (c := .doze m src []) rfl result

/-- Settles O58: the conditions, the release, and the moment of entry. -/
theorem dozeEntered : Obligations.DozeEntered := by
  refine ⟨fun s m src takes => ?_, fun s op pending slot replies => ?_⟩
  · intro u quiet ready handsZero released told
    have ready_iff : u.dozeReady = true ↔ ready := by
      rw [State.dozeReady_congr (s := s) (by simp [u]) (by simp [u]) (by simp [u]) (by simp [u])]
      exact s.dozeReady_iff
    have bud : u.bud = s.bud := by simp [u]
    have msg : u.msg = s.msg := by simp [u]
    have listenOnly : u.line.listenOnly = s.line.listenOnly := by simp [u]
    have claimSlot : u.line.claimSlot = s.line.claimSlot := by simp [u]
    have free : u.line.attempt = none := by
      show (s.heard m.t).line.attempt = none
      simpa using takes.quiet
    refine ⟨s.dozeReady_iff, fun pending h => ?_, fun h => ?_, fun pending h => ?_⟩
    · exact takes.doze m ((if_pos (ready_iff.2 h)).trans (if_pos (by rw [msg]; exact pending)))
    · exact takes.doze m (if_neg (mt ready_iff.1 h))
    · have hands : (!u.line.listenOnly && (decide (0 < u.bud.own) || decide (0 < u.bud.completed))) = decide handsZero := by
        rw [listenOnly, bud, Bool.eq_iff_iff, decide_eq_true_iff]
        simp [handsZero]
      have releasedEq : u.releasedTo (decide handsZero) = released := by
        by_cases zero : handsZero
        · simp only [State.releasedTo, released, if_pos zero, if_pos (decide_eq_true zero)]
          rfl
        · simp only [State.releasedTo, released, if_neg zero, if_neg (mt of_decide_eq_true zero)]
          rfl
      have toldEq : u.dozeRelease = told := by
        rw [State.dozeRelease_eq free hands, releasedEq, bud]
      have toldMsg : told.msg = s.msg := by rw [← toldEq, ← msg]; simp
      have result : u.dozeRule = (told.setMsg { s.msg with dozePending := true }, .accepted) := by
        refine (if_pos (ready_iff.2 h)).trans ((if_neg (by rw [msg, pending]; exact Bool.false_ne_true)).trans ?_)
        rw [toldEq, ← toldMsg]
      have toldBud : told.bud = s.bud.released := by
        simp only [told]
        split <;> simp [released, bud, Budget.released]
      refine ⟨_, takes.doze m result, rfl, ?_⟩
      have toldSlot : told.line.claimSlot = if handsZero then some { mA := 0, count := 0, next := none } else s.line.claimSlot := by
        have kept : told.line.claimSlot = released.line.claimSlot := by
          simp only [told]
          split
          · rfl
          · exact State.askNotice_claimSlot _ _
        rw [kept]
        simp only [released]
        split
        · rfl
        · exact claimSlot
      obtain ⟨pool, router, kbd, call, asm, eng⟩ : told.pool = s.pool ∧ told.router = s.router ∧ told.kbd = s.kbd
          ∧ told.call = s.call ∧ told.asm = s.asm ∧ told.eng = s.eng := by
        rw [← toldEq]
        simp [u]
      have completed : told.bud.completed = s.bud.completed := by
        rw [toldBud]
        rfl
      exact ⟨congrArg Budget.own toldBud, congrArg Budget.granted toldBud, completed, toldSlot, pool, eng, call,
        asm, kbd, router⟩
  · have moment : s.dozeMoment = if s.dozeReady && s.bud.own = 0 then s.enterDoze else s.setMsg { s.msg with dozePending := false } :=
      if_pos (by simp [pending, op, slot, replies])
    refine ⟨fun ready own => ⟨s.enterDoze, ?_, ?_⟩, fun h => ?_⟩
    · exact congrArg _ (moment.trans (if_pos (by simp [ready, own])))
    · simp [State.enterDoze, MessageUnit.stopGathers, Keyboard.dozing, Engine.dozing, Budget.dozing, State.silence, State.demodStop,
        Beeper.reset, Config.dozeScanPeriod]
    · refine congrArg _ (moment.trans (if_neg ?_))
      rw [Bool.and_eq_true, decide_eq_true_eq]
      exact fun both => h.elim (by simp [both.1]) (· both.2)

end Sys2Proof.Machine

/-! PROOFS. RESTART and power-on reset (R190 to R192), and the laws right after it. -/

namespace Sys2Proof.Machine

/-! ## What the sample at entry leaves alone -/

theorem State.askNotice_onlyNotices (s : State) (n : Notice) :
    s.askNotice n = s.setLine { s.line with notices := (s.askNotice n).line.notices } := by
  unfold State.askNotice
  (repeat' split) <;> rfl

/-- The state `s` but for the hold conditions with what follows from them: the engine's state, cause, count, step and watch timer,
and the notices. -/
def State.heldAs (s t : State) : State :=
  (s.setEng { s.eng with
    st := t.eng.st, holds := t.eng.holds, cause := t.eng.cause, holdCount := t.eng.holdCount, step := t.eng.step
    watchTimer := t.eng.watchTimer }).setLine { s.line with notices := t.line.notices }

theorem State.heldAs_askNotice {s t : State} (h : t = s.heldAs t) (n : Notice) : t.askNotice n = s.heldAs (t.askNotice n) := by
  have eng : (t.askNotice n).eng = t.eng := by simp
  have lined : t.setLine { t.line with notices := (t.askNotice n).line.notices }
      = (s.heldAs t).setLine { (s.heldAs t).line with notices := (t.askNotice n).line.notices } :=
    congrArg (fun x : State => x.setLine { x.line with notices := (t.askNotice n).line.notices }) h
  rw [State.heldAs, eng]
  exact (t.askNotice_onlyNotices n).trans lined

/-- A change of the set touches only what `heldAs` names. -/
theorem State.applyHolds_heldAs (s : State) (h : HoldSet) : s.applyHolds h = s.heldAs (s.applyHolds h) := by
  unfold State.applyHolds
  split
  · unfold State.keepHeld
    split
    · rfl
    · split
      · split
        · rfl
        · exact State.heldAs_askNotice rfl _
      · exact State.heldAs_askNotice rfl _
  · generalize stepEnded s.eng.step h = joined
    cases highest : joined.highest with
    | none => simp only [State.enterHeld, highest]; rfl
    | some c =>
      rw [State.enterHeld_eq highest]
      exact State.heldAs_askNotice rfl _

theorem State.sampleNow_heldAs (s : State) (sense : Sense) :
    s.sampleNow sense = (s.readSense sense).heldAs (s.sampleNow sense) := by
  by_cases some_ : ((s.readSense sense).liveHolds sense).any = true
  · rw [show s.sampleNow sense = (s.readSense sense).applyHolds ((s.readSense sense).liveHolds sense) from if_pos some_]
    exact State.applyHolds_heldAs _ _
  · rw [show s.sampleNow sense = s.readSense sense from if_neg some_]
    rfl

/-! ## RESTART and power-on reset -/

theorem Pool.restarted_eq (p : Pool) : p.restarted = {
    free := (p.fwq.reverse ++ p.prq.reverse ++ p.txq.reverse).map Block.id ++ p.free
    txq := [], prq := [], fwq := [], prqLost := false, fwqLost := false, fwqInMessage := 0 } := by
  simp [Pool.restarted, Pool.discard, Pool.setFree, Pool.setChain, Pool.setLost, Pool.chain]

/-- Settles O59: the blocks after reset, the sample, RESTART and power-on reset as states, and the two timers. -/
theorem startUp : Obligations.StartUp := by
  refine ⟨fun now own fast darkness routing tick => ⟨rfl, rfl, rfl, rfl, rfl, rfl, rfl, rfl, rfl, rfl, rfl, rfl, rfl, rfl⟩,
    fun s sense => ?_,
    fun s m src broadcast attempt awake other => ?_, fun s straps rateHigh sense => ?_, fun s d due => ?_, fun s d due => ?_⟩
  · intro mv read h
    have live : (s.readSense sense).liveHolds sense = h := State.liveHolds_eq sense rfl rfl
    rw [← live]
    rfl
  · intro u blank
    have heard (body : List Byte) :
        exec (.restart m src broadcast body) s = .next (State.reviewed s (u.restartMessage body m.sense)) :=
      congrArg _ (s.delivered_heard m _ (fun u => u.restartMessage body m.sense) attempt awake other)
    refine ⟨fun body some_ => ?_, blank.sampleNow m.sense, ?_, rfl, ?_⟩
    · refine (heard body).trans (reviewed_congr s (if_neg ?_))
      simpa using some_
    · refine (heard []).trans (reviewed_congr s ((if_pos rfl).trans ?_))
      have pool : u.pool = s.pool := by simp [u]
      have msg : u.msg = s.msg := by simp [u]
      have call : u.call = s.call := by simp [u]
      have bud : u.bud = s.bud := by simp [u]
      rw [State.restart, pool, msg, call, bud, Pool.restarted_eq]
      rfl
    · have addr : u.line.addr = s.line.addr := by simp [u]
      have fast : u.line.fast = s.line.fast := by
        show (s.advanceTo m.t).line.fast = _
        simp
      rw [blank.sampleNow_heldAs m.sense]
      exact ⟨rfl, rfl, rfl, rfl, rfl, rfl, rfl, rfl, rfl, rfl, rfl, rfl, rfl, rfl, rfl, rfl, rfl, rfl, rfl, rfl, rfl, rfl, rfl, rfl,
        rfl, rfl, rfl, rfl, rfl, rfl, rfl, rfl, rfl, rfl, rfl, addr, fast⟩
  · intro own blank
    refine ⟨blank.sampleNow sense, rfl, rfl, ?_⟩
    rw [blank.sampleNow_heldAs sense]
    exact ⟨rfl, rfl, rfl, rfl, rfl, rfl, Setup.default_law own, rfl, rfl, rfl, rfl, rfl, rfl, rfl⟩
  · intro u
    show execPresentDelayExpiry s = _
    rw [execPresentDelayExpiry, due]
    rfl
  · intro u
    have msg : u.msg = s.msg := by simp [u]
    have kbd : u.kbd = s.kbd := by simp [u]
    have listenOnly : u.line.listenOnly = s.line.listenOnly := by simp [u]
    have closes : exec .setupWindowExpiry s = .next (State.reviewed s u.closeWindow) := s.onTimer_running due State.windowExpiry
    refine closes.trans (reviewed_congr s ?_)
    rw [State.closeWindow, State.enterRun_eq, ← msg, ← kbd, ← listenOnly]
    rfl

/-- Settles O60: each law of the machine right after reset, whose chains, slots and flags are all empty. -/
theorem resetMeetsLaws : Obligations.ResetMeetsLaws := by
  have pool : State.reset.pool.Law :=
    { once := by decide, txq := by decide, prq := by decide, fwq := by decide, copied := by decide }
  have ground : State.reset.FlowGround :=
    { marks := by decide, start := fun _ => ⟨rfl, .inl rfl⟩, scans := fun _ => rfl }
  have keys : State.reset.KeyLaw :=
    { size := by decide, copied := by decide, slot := ⟨fun _ => rfl, fun _ => rfl⟩, records := nofun }
  have queues : State.reset.QueueLaw := { replies := by decide, notices := List.nodup_nil }
  have call : State.reset.CallLaw :=
    { idle := fun _ => rfl, ready := nofun, params := by decide, muted := nofun, breaking := nofun }
  have held : State.reset.HeldLaw := { held := by decide, none_ := by decide, present := nofun }
  have claim : State.reset.ClaimLaw := { completed := by decide, own := by decide, slot := nofun, asking := nofun }
  have table : State.reset.TableLaw := { once := List.nodup_nil, entries := nofun }
  exact ⟨pool, fun _ => rfl, ground, nofun, keys, queues, call, held, claim, table, Setup.default_law 5, rfl, rfl, by decide, rfl,
    rfl, rfl⟩

end Sys2Proof.Machine

/-! PROOFS. The wait for the wire, the slots and their messages, and the notice queue (R178, R180, R181, R187, R195). -/

namespace Sys2Proof.Machine

/-! ## What reading bits leaves of the receiver -/

/-- Only the receiver's character and message states differ. -/
def Line.Reads (l r : Line) : Prop := r = { l with chars := r.chars, message := r.message }

theorem Line.Reads.refl (l : Line) : l.Reads l := rfl

theorem Line.Reads.trans {a b c : Line} (h : a.Reads b) (g : b.Reads c) : a.Reads c := by
  unfold Line.Reads at *
  rw [g, h]

theorem Hearing.drop_reads (h : Hearing) (t : Nat) (e : WireEvent) : h.line.Reads (h.drop t e).line := by
  rw [Hearing.drop_line]
  rfl

theorem Hearing.takeMarker_reads (h : Hearing) (doze : Bool) (t : Nat) (head : Byte) :
    h.line.Reads (h.takeMarker doze t head).line := by
  cases doze with
  | false => exact (h.drop_reads t (.rejected (.newMarker head))).trans rfl
  | true => rfl

theorem Hearing.takeNext_reads (h : Hearing) (t : Nat) (c : Byte) : h.line.Reads (h.takeNext t c).line := by
  unfold Hearing.takeNext
  split
  · rfl
  · dsimp only
    split
    · rfl
    · split
      · exact h.drop_reads _ _
      · split
        · exact h.drop_reads _ _
        · rfl

theorem Hearing.readBit_reads (h : Hearing) (doze : Bool) (t edge : Nat) (bits : List Bool) (high : Bool) :
    h.line.Reads (h.readBit doze t edge bits high).line := by
  have begun : h.line.Reads { h.line with chars := .hunting } := rfl
  unfold Hearing.readBit
  dsimp only
  split
  · rfl
  split
  · rfl
  split
  · split
    · exact begun.trans (Hearing.takeMarker_reads { h with line := { h.line with chars := .hunting } } doze t _)
    · exact begun.trans (Hearing.takeNext_reads { h with line := { h.line with chars := .hunting } } t _)
  · exact Line.Reads.trans (b := { h.line with chars := .waitHigh }) rfl
      (Hearing.drop_reads { h with line := { h.line with chars := .waitHigh } } t _)

theorem Hearing.readBits_reads (doze high : Bool) (till n : Nat) (h : Hearing) :
    h.line.Reads (Hearing.readBits doze high till n h).line := by
  induction n generalizing h with
  | zero => rfl
  | succ n ih =>
    unfold Hearing.readBits
    split
    · dsimp only
      split
      · exact (h.readBit_reads _ _ _ _ _).trans (ih _)
      · rfl
    · rfl

theorem Hearing.count_reads (h : Hearing) (till : Nat) : h.line.Reads (h.count till).line := by
  unfold Hearing.count
  dsimp only
  split
  · split <;> rfl
  · split
    · exact h.drop_reads _ _
    · rfl

theorem Line.edge_wire (l : Line) (high : Bool) : (l.edge high).readTo = l.readTo ∧ (l.edge high).wireLow = !high
    ∧ (l.edge high).wireSince = if l.wireLow = !high then l.wireSince else l.readTo := by
  by_cases level : l.wireLow = !high
  · have kept : l.edge high = l := if_pos (by simp [level])
    rw [kept, if_pos level]
    exact ⟨rfl, level, rfl⟩
  · have turned : l.edge high = (if high = !l.wireLow then l else _) := rfl
    rw [turned, if_neg (by cases high <;> simp_all), if_neg level]
    exact ⟨rfl, rfl, rfl⟩

/-- A stretch of the wire moves the moment read up to by its length, and the count of its level runs on or starts afresh. -/
theorem Hearing.run_wire (doze : Bool) (h : Hearing) {r : WireRun} (some_ : 0 < r.length) :
    (h.run doze r).line.readTo = h.line.readTo + r.length ∧ (h.run doze r).line.wireLow = !r.high
      ∧ (h.run doze r).line.wireSince = if h.line.wireLow = !r.high then h.line.wireSince else h.line.readTo := by
  obtain ⟨-, low, since⟩ := h.line.edge_wire r.high
  have bits := Hearing.readBits_reads doze r.high (h.line.readTo + r.length) 11 { h with line := h.line.edge r.high }
  have both := bits.trans (Hearing.count_reads _ (h.line.readTo + r.length))
  have run : h.run doze r = (if r.length = 0 then h else _) := rfl
  rw [run, if_neg (by omega)]
  exact ⟨rfl, (congrArg Line.wireLow both).trans low, (congrArg Line.wireSince both).trans since⟩

theorem State.hear_append (s : State) (wave : Wave) (r : WireRun) :
    s.hear (wave ++ [r]) = (s.hear wave).run (decide (s.msg.op = .doze)) r :=
  List.foldl_append

/-! ## The start of an attempt (R178) -/

theorem Line.waitBits_congr {l r : Line} (h : l.Same r) : r.waitBits = l.waitBits := by
  unfold Line.Same at h
  rw [h]
  rfl

theorem Line.waitOver_iff (l : Line) :
    l.waitOver = true ↔ l.wireLow = false ∧ l.wireSince + l.waitBits * l.bit ≤ l.readTo := by
  simp [Line.waitOver]

theorem State.mayStart_iff (s : State) :
    s.mayStart = true ↔ s.line.attempt = none ∧ s.line.listenOnly = false ∧ s.msg.op ≠ .doze := by
  simp [State.mayStart, and_assoc]

theorem Line.countAttempt_wireSince (l : Line) (slot : Slot) : (l.countAttempt slot).wireSince = l.wireSince := by
  cases slot <;> rfl

theorem State.waitEnds (s : State) (wave : Wave) :
    let h := s.hear wave
    let l := h.line
    let bit := if s.line.fast then 16 else 64
    let wait := (14 + (if s.line.retry then 2 * s.line.addr.toNat else 0)) * bit
    let may := s.line.attempt = none ∧ s.line.listenOnly = false ∧ s.msg.op ≠ .doze
    let waited := h.events = [] ∧ l.wireLow = false ∧ l.wireSince + wait ≤ l.readTo
    (∀ slot bytes, may → waited → s.readySlot = some slot → s.line.slotMessage slot = some bytes →
        let u := s.advanceTo l.readTo
        s.endWait wave = u.setLine { l.countAttempt slot with
              attempt := some { slot := slot, bytes := bytes, started := u.now, highSince := l.wireSince }
              chars := .hunting, message := .waiting, wireLow := true, wireSince := u.now })
      ∧ (¬ may ∨ ¬ waited ∨ s.readySlot = none → s.endWait wave = s) := by
  intro h l bit wait may waited
  have same : s.line.Same l := s.line.hear_same _ wave
  have waits : wait = l.waitBits * l.bit := by
    rw [Line.waitBits_congr same, show l = s.line.withReceiver l from same]
    rfl
  have over_ : (s.mayStart && h.events.isEmpty && h.line.waitOver) = true ↔ may ∧ waited := by
    rw [Bool.and_eq_true, Bool.and_eq_true, State.mayStart_iff, Line.waitOver_iff, List.isEmpty_iff, and_assoc]
    show _ ∧ _ ∧ _ ∧ l.wireSince + l.waitBits * l.bit ≤ l.readTo ↔ _
    rw [← waits]
  have shape : s.endWait wave = (if (s.mayStart && h.events.isEmpty && h.line.waitOver) = true then _ else s) := rfl
  refine ⟨fun slot bytes can done ready message => ?_, fun none_ => ?_⟩
  · rw [shape, if_pos (over_.2 ⟨can, done⟩), ready]
    dsimp only
    rw [message]
    have since : (l.countAttempt slot).wireSince = l.wireSince := Line.countAttempt_wireSince l slot
    show ((s.advanceTo l.readTo).setLine l).startAttempt slot bytes = _
    simp only [State.startAttempt, State.setLine_line, since]
    rfl
  · rw [shape]
    split
    case isTrue go =>
      obtain ⟨can, done⟩ := over_.1 go
      rw [none_.elim (absurd can) (fun rest => rest.elim (absurd done) id)]
    case isFalse => rfl

/-! ## The notice queue (R187) -/

theorem Setup.routeDest_off {r : Setup} {k : NoticeKind} (h : r.route k = .off) : r.routeDest k = none := by
  simp [Setup.routeDest, h]

theorem Setup.routeDest_on {r : Setup} {k : NoticeKind} (h : r.route k ≠ .off) :
    r.routeDest k = some (if r.route k = .all then 0 else r.controller) := by
  unfold Setup.routeDest
  cases route : r.route k with
  | off => exact absurd route h
  | controller => rfl
  | all => rfl

theorem State.askNotice_none {s : State} {n : Notice} (h : s.line.listenOnly = true ∨ s.msg.setup.route n.kind = .off) :
    s.askNotice n = s := by
  unfold State.askNotice
  split
  · rfl
  · rw [Setup.routeDest_off (h.resolve_left ‹_›)]

theorem State.askNotice_posts {s : State} {n : Notice} (heard : s.line.listenOnly = false)
    (on : s.msg.setup.route n.kind ≠ .off) :
    let dest := if s.msg.setup.route n.kind = .all then 0 else s.msg.setup.controller
    s.askNotice n = s.setLine { s.line with notices := postNotice s.line.notices n dest (s.line.carrying .notice) } := by
  unfold State.askNotice
  rw [heard, Setup.routeDest_on on]
  rfl

theorem postNotice_joins {q : List NoticeEntry} {n : Notice} (dest : Addr) (carried : Bool)
    (new : ∀ e ∈ q, e.notice.kind ≠ n.kind) :
    postNotice q n dest carried = q ++ [{ notice := n, dest := dest, count := 0, changed := false, since := 0 }] := by
  induction q generalizing carried with
  | nil => rfl
  | cons e rest ih =>
    rw [postNotice, if_neg (new e (List.mem_cons_self ..)), ih false fun x mem => new x (List.mem_cons_of_mem _ mem)]
    rfl

theorem postNotice_replaces {before rest : List NoticeEntry} {e : NoticeEntry} {n : Notice} (dest : Addr) (carried : Bool)
    (new : ∀ x ∈ before, x.notice.kind ≠ n.kind) (here : e.notice.kind = n.kind) :
    postNotice (before ++ e :: rest) n dest carried
      = before ++ e.renew n dest (before.isEmpty && carried) :: rest := by
  induction before generalizing carried with
  | nil => exact if_pos here
  | cons x before ih =>
    rw [List.cons_append, postNotice, if_neg (new x (List.mem_cons_self ..)),
      ih false fun y mem => new y (List.mem_cons_of_mem _ mem), Bool.and_false]
    rfl

theorem NoticeEntry.renew_break {e : NoticeEntry} {n : Notice} {k : Nat} (dest : Addr) (carried : Bool)
    (old : e.notice = .breakReceived k) (here : e.notice.kind = n.kind) :
    e.renew n dest carried = { e with
      notice := .breakReceived (min 255 (k + 1)), dest := dest, changed := e.changed || (carried && decide (k < 255))
      since := if carried && decide (k < 255) then min 255 (e.since + 1) else e.since } := by
  obtain ⟨j, rfl⟩ : ∃ j, n = .breakReceived j := by
    rw [old] at here
    cases n <;> simp_all [Notice.kind]
  have below : (!decide (255 ≤ k)) = decide (k < 255) := by rw [← decide_not]; simp only [Nat.not_le]
  simp only [NoticeEntry.renew, old, Notice.renewed, Notice.atMost, below]

theorem NoticeEntry.renew_other {e : NoticeEntry} {n : Notice} (dest : Addr) (carried : Bool)
    (old : ∀ k, e.notice ≠ .breakReceived k) :
    e.renew n dest carried = { e with
      notice := n, dest := dest, changed := e.changed || carried
      since := if carried then min 255 (e.since + 1) else e.since } := by
  have free : e.notice.atMost = false := by
    cases h : e.notice with
    | breakReceived k => exact absurd h (old k)
    | _ => rfl
  have taken : e.notice.renewed n = n := by
    cases h : e.notice with
    | breakReceived k => exact absurd h (old k)
    | _ => rfl
  simp only [NoticeEntry.renew, free, taken, Bool.not_false, Bool.and_true]

/-! ## The messages of the slots (R174, R195) -/

theorem byteSum_toNat (bytes : List Byte) : (byteSum bytes).toNat = (bytes.map BitVec.toNat).sum % 256 := by
  have go : ∀ (c : Byte), (bytes.foldl (· + ·) c).toNat = (c.toNat + (bytes.map BitVec.toNat).sum) % 256 := by
    induction bytes with
    | nil => exact fun c => by simpa using (Nat.mod_eq_of_lt c.isLt).symm
    | cons b rest ih =>
      intro c
      rw [List.foldl_cons, ih, BitVec.toNat_add, List.map_cons, List.sum_cons]
      omega
  exact (go 0).trans (by simp)

theorem byteSum_append (a b : List Byte) : byteSum (a ++ b) = byteSum a + byteSum b := by
  apply BitVec.eq_of_toNat_eq
  rw [BitVec.toNat_add, byteSum_toNat, byteSum_toNat, byteSum_toNat, List.map_append, List.sum_append]
  omega

/-- The check makes the sum of a message's characters 0. -/
theorem byteSum_messageOf (dest src : Addr) (kind : Byte) (body : List Byte) : byteSum (messageOf dest src kind body) = 0 := by
  have check (front : List Byte) : byteSum (front ++ [checkOf front]) = 0 := by
    rw [byteSum_append]
    show byteSum front + (0#8 + (0#8 - byteSum front)) = 0#8
    rw [BitVec.zero_add, BitVec.zero_sub]
    exact BitVec.add_right_neg _
  exact check _

theorem sum_messageOf (dest src : Addr) (kind : Byte) (body : List Byte) :
    ((messageOf dest src kind body).map BitVec.toNat).sum % 256 = 0 := by
  rw [← byteSum_toNat, byteSum_messageOf]
  rfl

end Sys2Proof.Machine

/-! PROOFS. The characters of the messages that the slots hold (R195), and how a message is counted and chosen (R180, R181). -/

namespace Sys2Proof.Machine

/-! ## Bits of characters (R195) -/

theorem getLsbD_flagBit (b : Bool) {n : Nat} (small : n < 8) (i : Nat) :
    (flagBit b n).getLsbD i = (b && decide (i = n)) := by
  cases b with
  | false => exact BitVec.getLsbD_zero
  | true =>
    have one : flagBit true n = BitVec.twoPow 8 n := (BitVec.twoPow_eq 8 n).symm
    rw [one, BitVec.getLsbD_twoPow]
    simp [small, eq_comm]

theorem getLsbD_spare (kind index : Nat) (mask : Byte) {i : Nat} (used : mask.getLsbD i = false) :
    (spare kind index mask).getLsbD i = false := by
  rw [spare, BitVec.getLsbD_and, used, Bool.and_false]

/-- The set of conditions as a sum of its bits (R195). -/
theorem HoldSet.code_eq_sum (h : HoldSet) :
    let bit (b : Bool) : Byte := if b then 1 else 0
    h.code = bit h.stopped + 2 * bit h.headHot + 4 * bit h.lowVoltage + 8 * bit h.batteryCritical + 16 * bit h.doorOpen
           + 32 * bit h.paperOut + 64 * bit h.budget + 128 * bit h.controllerHold := by
  have all : ∀ a b c d e f g i : Bool,
      flagBit a 0 ||| flagBit b 1 ||| flagBit c 2 ||| flagBit d 3 ||| flagBit e 4 ||| flagBit f 5 ||| flagBit g 6 ||| flagBit i 7
        = (if a then 1 else 0) + 2 * (if b then 1 else 0) + 4 * (if c then 1 else 0) + 8 * (if d then 1 else 0)
          + 16 * (if e then 1 else 0) + 32 * (if f then 1 else 0) + 64 * (if g then 1 else 0) + 128 * (if i then 1 else 0) := by
    decide
  exact all _ _ _ _ _ _ _ _

/-! ## Records and cells in a body (R195) -/

/-- A body of `w` characters per item: its length, and where an item's characters stand. -/
theorem getElem?_flatMap_zipIdx {α : Type} (f : Nat → α → List Byte) {w : Nat} (width : ∀ i x, (f i x).length = w)
    (xs : List α) (k : Nat) :
    ((xs.zipIdx k).flatMap fun r => f r.2 r.1).length = w * xs.length
      ∧ ∀ i x j, xs[i]? = some x → j < w →
          ((xs.zipIdx k).flatMap fun r => f r.2 r.1)[w * i + j]? = (f (k + i) x)[j]? := by
  induction xs generalizing k with
  | nil => exact ⟨rfl, nofun⟩
  | cons y ys ih =>
    obtain ⟨length, at_⟩ := ih (k + 1)
    rw [List.zipIdx_cons, List.flatMap_cons]
    refine ⟨?_, fun i x j here small => ?_⟩
    · rw [List.length_append, length, width, List.length_cons]
      ring
    · cases i with
      | zero =>
        obtain rfl := Option.some.inj here
        rw [Nat.mul_zero, Nat.zero_add]
        exact List.getElem?_append_left (by rw [width]; exact small)
      | succ i =>
        have place : w * (i + 1) + j = w + (w * i + j) := by ring
        rw [List.getElem?_append_right (by rw [width, place]; omega), width, place, Nat.add_sub_cancel_left,
          at_ i x j here small]
        ring_nf

/-- The second character of a key record. -/
def KeyRecord.flags (i : Nat) (r : KeyRecord) : Byte :=
  r.event.code ||| flagBit r.shift 2 ||| flagBit r.ctrl 3 ||| flagBit r.caps 4 ||| flagBit r.lostBefore 5
    ||| spare 0x21 (3 * i + 1) 0xC0

theorem KeyEvent.code_getLsbD_high (e : KeyEvent) {i : Nat} (high : 2 ≤ i) : e.code.getLsbD i = false := by
  have small : e.code.toNat < 2 ^ i := calc
    e.code.toNat < 2 ^ 2 := by cases e <;> decide
    _ ≤ 2 ^ i := Nat.pow_le_pow_right (by decide) high
  exact Nat.testBit_lt_two_pow small

theorem KeyRecord.flags_event (i : Nat) (r : KeyRecord) : (r.flags i).toNat % 4 = r.event.code.toNat := by
  have low : r.flags i &&& 3#8 = r.event.code := by
    refine BitVec.eq_of_getLsbD_eq fun k small => ?_
    obtain rfl | rfl | high : k = 0 ∨ k = 1 ∨ 2 ≤ k := by omega
    · simp [-BitVec.getLsbD_eq_getElem, KeyRecord.flags, getLsbD_flagBit, getLsbD_spare]
    · simp [-BitVec.getLsbD_eq_getElem, KeyRecord.flags, getLsbD_flagBit, getLsbD_spare]
    · have mask : (3#8).getLsbD k = false := Nat.testBit_lt_two_pow (show 3 < 2 ^ k from
        lt_of_lt_of_le (by decide : 3 < 2 ^ 2) (Nat.pow_le_pow_right (by decide) high))
      rw [BitVec.getLsbD_and, mask, Bool.and_false, KeyEvent.code_getLsbD_high _ high]
  rw [← low, BitVec.toNat_and]
  exact (Nat.and_two_pow_sub_one_eq_mod _ 2).symm

theorem KeyRecord.flags_bits (i : Nat) (r : KeyRecord) :
    (r.flags i).getLsbD 2 = r.shift ∧ (r.flags i).getLsbD 3 = r.ctrl ∧ (r.flags i).getLsbD 4 = r.caps
      ∧ (r.flags i).getLsbD 5 = r.lostBefore := by
  refine ⟨?_, ?_, ?_, ?_⟩ <;>
    simp [-BitVec.getLsbD_eq_getElem, KeyRecord.flags, getLsbD_flagBit, getLsbD_spare, KeyEvent.code_getLsbD_high]

/-- The second character of a received cell. -/
def Cell.flags (i : Nat) (c : Cell) : Byte :=
  flagBit c.parity 0 ||| flagBit c.framing 1 ||| flagBit c.noise 2 ||| flagBit c.lostBefore 3 ||| flagBit c.lineBreak 4
    ||| spare 0x22 (2 * i + 1) 0xE0

theorem Cell.flags_bits (i : Nat) (c : Cell) :
    (c.flags i).getLsbD 0 = c.parity ∧ (c.flags i).getLsbD 1 = c.framing ∧ (c.flags i).getLsbD 2 = c.noise
      ∧ (c.flags i).getLsbD 3 = c.lostBefore ∧ (c.flags i).getLsbD 4 = c.lineBreak := by
  refine ⟨?_, ?_, ?_, ?_, ?_⟩ <;> simp [-BitVec.getLsbD_eq_getElem, Cell.flags, getLsbD_flagBit, getLsbD_spare]

theorem keysBody_record (rs : List KeyRecord) : (keysBody rs).length = 3 * rs.length
    ∧ ∀ (i : Nat) (r : KeyRecord), rs[i]? = some r → (keysBody rs)[3 * i]? = some (BitVec.ofNat 8 r.pos)
      ∧ (keysBody rs)[3 * i + 1]? = some (r.flags i) ∧ (keysBody rs)[3 * i + 2]? = some (r.code.getD 0xFF) := by
  obtain ⟨length, at_⟩ := getElem?_flatMap_zipIdx keyRecordChars (w := 3) (fun _ _ => rfl) rs 0
  refine ⟨length, fun i r here => ⟨?_, ?_, ?_⟩⟩
  · exact (at_ i r 0 here (by decide)).trans rfl
  · exact (at_ i r 1 here (by decide)).trans (by rw [Nat.zero_add]; rfl)
  · exact (at_ i r 2 here (by decide)).trans (by cases h : r.code <;> simp [keyRecordChars, codeOrNone, h])

theorem textBody_cell (cs : List Cell) : (textBody cs).length = 2 * cs.length
    ∧ ∀ (i : Nat) (c : Cell), cs[i]? = some c → (textBody cs)[2 * i]? = some c.code
      ∧ (textBody cs)[2 * i + 1]? = some (c.flags i) := by
  obtain ⟨length, at_⟩ := getElem?_flatMap_zipIdx textCellChars (w := 2) (fun _ _ => rfl) cs 0
  refine ⟨length, fun i c here => ⟨?_, ?_⟩⟩
  · exact (at_ i c 0 here (by decide)).trans rfl
  · exact (at_ i c 1 here (by decide)).trans (by rw [Nat.zero_add]; rfl)

/-! ## The first ready slot (R181) -/

section Ready

variable {s : State}

theorem State.readySlot_claim (h : s.line.claimSlot ≠ none) : s.readySlot = some .claim :=
  if_pos (Option.isSome_iff_ne_none.2 h)

theorem State.readySlot_reply (claim : s.line.claimSlot = none) (h : s.line.replies ≠ []) : s.readySlot = some .reply :=
  (if_neg (by simp [claim])).trans (if_pos (by simpa using h))

theorem State.readySlot_notice (claim : s.line.claimSlot = none) (replies : s.line.replies = []) (h : s.line.notices ≠ [])
    (run : s.msg.op ≠ .start) : s.readySlot = some .notice :=
  (if_neg (by simp [claim])).trans <| (if_neg (by simp [replies])).trans (if_pos ⟨run, by simpa using h⟩)

/-- Without a CLAIM, a reply or a notice that may be sent, the last three slots follow in their order. -/
theorem State.readySlot_rest (claim : s.line.claimSlot = none) (replies : s.line.replies = [])
    (quiet : s.line.notices = [] ∨ s.msg.op = .start) :
    s.readySlot = if s.line.keysSlot.isSome then some .keys else if s.line.textSlot.isSome then some .text
      else if s.line.presentSlot.isSome then some .present else none :=
  (if_neg (by simp [claim])).trans <| (if_neg (by simp [replies])).trans <|
    if_neg fun ⟨run, some_⟩ => quiet.elim (fun none_ => by simp [none_] at some_) run

end Ready

end Sys2Proof.Machine

/-! PROOFS. An attempt starts, its slot, and its message (R174, R178, R180, R181, R187, R195). -/

namespace Sys2Proof.Machine

/-- A slot's message has its head, kind, length and body, and a check that makes the sum 0 (R174). -/
theorem Line.slotMessage_carries {l : Line} {slot : Slot} {dest : Addr} {kind : Byte} {body : List Byte}
    (h : l.slotMessage slot = some (messageOf dest l.addr kind body)) : ∃ bytes check,
      l.slotMessage slot = some bytes
        ∧ bytes = [BitVec.ofNat 8 (16 * dest.toNat + l.addr.toNat), kind, BitVec.ofNat 8 body.length] ++ body ++ [check]
        ∧ (bytes.map BitVec.toNat).sum % 256 = 0 :=
  ⟨_, _, h, rfl, sum_messageOf _ _ _ _⟩

/-- Settles O51: the wait, the slots in their order, the notice queue by induction on it, and each slot's message by its body. -/
theorem attemptStarts : Obligations.AttemptStarts := by
  unfold Obligations.AttemptStarts
  refine ⟨fun s wave => ?_, fun l => ⟨rfl, ?_, ?_, rfl, rfl, rfl⟩, fun s => ?_, fun s n => ?_, fun l => ?_⟩
  case refine_1 =>
    obtain ⟨starts, stays⟩ := s.waitEnds wave
    refine ⟨fun slot bytes may waited ready message => congrArg Host.Outcome.next (starts slot bytes may waited ready message),
      fun none_ => congrArg Host.Outcome.next (stays none_), fun r some_ => ?_⟩
    rw [s.hear_append]
    exact Hearing.run_wire _ _ some_
  case refine_2 =>
    intro r rest h
    show { l with replies := l.replies.modifyHead _ } = _
    rw [h]
    rfl
  case refine_3 =>
    intro e rest h
    show { l with notices := l.notices.modifyHead _ } = _
    rw [h]
    rfl
  case refine_4 =>
    refine ⟨s.readySlot_claim, fun claim => ⟨s.readySlot_reply claim, fun replies => ⟨s.readySlot_notice claim replies, ?_⟩⟩⟩
    intro quiet
    rw [s.readySlot_rest claim replies quiet]
    refine ⟨fun keys => if_pos (Option.isSome_iff_ne_none.2 keys),
      fun keys => ⟨fun text => ?_, fun text => ⟨fun present => ?_, ?_⟩⟩⟩
    · simp [keys, Option.isSome_iff_ne_none.2 text]
    · simp [keys, text, Option.isSome_iff_ne_none.2 present]
    · intro present
      simp [keys, text, present]
  case refine_5 =>
    intro queue
    refine ⟨State.askNotice_none, fun heard on => ?_⟩
    intro dest
    have posts := State.askNotice_posts heard on
    refine ⟨fun new => posts.trans (congrArg queue (postNotice_joins dest _ new)), fun before e rest at_ new here => ?_⟩
    intro carried
    have carries : (before.isEmpty && s.line.carrying .notice) = decide carried := by
      rw [Bool.eq_iff_iff, Bool.and_eq_true, List.isEmpty_iff, Line.carrying_iff, decide_eq_true_iff]
    have replaced := posts.trans (congrArg queue
      ((congrArg (postNotice · n dest _) at_).trans (postNotice_replaces dest _ new here)))
    refine ⟨fun k old => ?_,
      fun old => ⟨if before.isEmpty && s.line.carrying .notice then min 255 (e.since + 1) else e.since, ?_⟩⟩
    · rw [replaced, carries, NoticeEntry.renew_break dest _ old here]
      congr 4
      · exact Bool.eq_iff_iff.2 (by simp [carried, and_assoc])
      · simp
    · rw [replaced, NoticeEntry.renew_other dest _ old, carries]
  case refine_6 =>
    intro two bit carries notice
    have body (n : Notice) : noticeBody n = notice n := by
      cases n with
      | printHeld cause h count =>
        show [4, cause.code, h.code, count] = _
        rw [h.code_eq_sum]
        rfl
      | carrierUp p => rfl
      | carrierDown cause left => rfl
      | handset seated muted => rfl
      | printResumed count entered => rfl
      | flow event => rfl
      | breakReceived k => rfl
      | loopResult sent bad aborted => rfl
      | keyLost => rfl
      | budget granted available cause => rfl
    refine ⟨fun c h => ?_, fun r rest h => ?_, fun e rest h => ?_, fun k h => ?_, fun t h => ?_, fun n h => ?_⟩
    · exact Line.slotMessage_carries (congrArg (Option.map _) h)
    · exact Line.slotMessage_carries (by rw [Line.slotMessage, h]; rfl)
    · rw [← body]
      exact Line.slotMessage_carries (by rw [Line.slotMessage, h]; rfl)
    · obtain ⟨length, records⟩ := keysBody_record k.records
      refine ⟨keysBody k.records, Line.slotMessage_carries (congrArg (Option.map _) h), length, fun i r here => ?_⟩
      obtain ⟨pos, flags, code⟩ := records i r here
      exact ⟨r.flags i, pos, flags, code, (r.flags_event i).trans (by cases r.event <;> rfl), r.flags_bits i⟩
    · obtain ⟨length, cells⟩ := textBody_cell t.cells
      refine ⟨textBody t.cells, Line.slotMessage_carries (congrArg (Option.map _) h), length, fun i c here => ?_⟩
      obtain ⟨code, flags⟩ := cells i c here
      exact ⟨c.flags i, code, flags, c.flags_bits i⟩
    · exact Line.slotMessage_carries (congrArg (Option.map _) h)

end Sys2Proof.Machine

/-! PROOFS. The three ends of an attempt, and what each slot's owner does (R179, R180). -/

namespace Sys2Proof.Machine

/-! ## The end of an attempt (R179) -/

/-- What the receiver has after a loss: of the line nothing else changes. -/
theorem Line.afterLoss_eq (l : Line) (doze : Bool) (a : Attempt) (k : Nat) :
    l.afterLoss doze a k = { l with
      chars := (l.afterLoss doze a k).chars, message := (l.afterLoss doze a k).message, wireLow := true
      readTo := a.started + k * l.bit + l.bit / 2, wireSince := (l.afterLoss doze a k).wireSince } := by
  unfold Line.afterLoss
  dsimp only
  split <;> rfl

theorem Line.afterLoss_stop {l : Line} {doze : Bool} {a : Attempt} {k : Nat} (stop : k % 11 = 10) :
    (l.afterLoss doze a k).chars = .waitHigh ∧ (l.afterLoss doze a k).message = .waiting := by
  have lost : l.afterLoss doze a k = (if k % 11 = 10 then _ else _) := rfl
  rw [lost, if_pos stop]
  exact ⟨rfl, rfl⟩

theorem Line.afterLoss_chars {l : Line} {doze : Bool} {a : Attempt} {k : Nat} (bit : k % 11 ≠ 10) :
    (l.afterLoss doze a k).chars
      = .reading (a.started + k / 11 * 11 * l.bit) (((messageBits a.bytes).take k).drop (k / 11 * 11) ++ [false]) := by
  have lost : l.afterLoss doze a k = (if k % 11 = 10 then _ else _) := rfl
  rw [lost, if_neg bit]

theorem Line.afterLoss_head {l : Line} {doze : Bool} {a : Attempt} {k : Nat} (head : k < 11) :
    (l.afterLoss doze a k).message = .waiting := by
  have lost : l.afterLoss doze a k = (if k % 11 = 10 then _ else _) := rfl
  by_cases stop : k % 11 = 10
  · rw [lost, if_pos stop]
  · rw [lost, if_neg stop]
    exact if_pos head

/-- A loss behind the head: the head, whose source is the part's own address, has been taken. -/
theorem Line.afterLoss_conflict {l : Line} {a : Attempt} {k : Nat} (body : 11 ≤ k) (bit : k % 11 ≠ 10)
    (own : headSource (charAt a.bytes 0) = l.addr) :
    (l.afterLoss false a k).message = .taking .conflict (a.bytes.take (k / 11)) := by
  have test : l.testHead false (charAt a.bytes 0) = .taking .conflict [charAt a.bytes 0] := if_pos own
  unfold Line.afterLoss
  dsimp only
  rw [if_neg bit]
  dsimp only
  rw [if_neg (by omega), test]

/-- The state `s` at the end of an attempt at `t`, with what the receiver then holds. -/
def State.endedAt (s : State) (t : Nat) (retry : Bool) (chars : CharState) (message : MessageState) (low : Bool)
    (since : Nat) : State :=
  (s.advanceTo t).setLine { s.line with
    attempt := none, retry := retry, chars := chars, message := message, readTo := t, wireLow := low, wireSince := since }

/-- The moment at which bit `k` of an attempt is read. -/
def State.bitRead (s : State) (a : Attempt) (k : Nat) : Nat := a.started + k * s.line.bit + s.line.bit / 2

section Ends

variable (s : State) (a : Attempt)

theorem State.attemptDone_eq : ∃ since,
    s.attemptDone a = (s.endedAt (a.started + (messageBits a.bytes).length * s.line.bit - s.line.bit / 2) false .hunting .waiting
      false since).messageSent a.slot := by
  have line (t : Nat) : (s.advanceTo t).line = s.line := by simp
  unfold State.attemptDone State.endedAt
  dsimp only
  rw [line]
  exact ⟨_, rfl⟩

theorem State.attemptFailsLost_eq (k : Nat) :
    let l := s.line.afterLoss (decide (s.msg.op = .doze)) a k
    s.attemptFailsLost a k = (s.endedAt (s.bitRead a k) true l.chars l.message true l.wireSince).messageFailed a.slot := by
  intro l
  have line (t : Nat) : (s.advanceTo t).line = s.line := by simp
  have msg (t : Nat) : (s.advanceTo t).msg = s.msg := by simp
  unfold State.attemptFailsLost State.endedAt
  dsimp only
  rw [line, msg, Line.afterLoss_eq]
  rfl

theorem State.attemptFailsFault_eq (k : Nat) : ∃ since, (k = 0 → since = a.highSince)
    ∧ s.attemptFailsFault a k = (s.endedAt (s.bitRead a k) true .hunting .waiting false since).messageFailed a.slot := by
  have line (t : Nat) : (s.advanceTo t).line = s.line := by simp
  unfold State.attemptFailsFault State.endedAt
  dsimp only
  rw [line]
  refine ⟨_, fun first => ?_, rfl⟩
  rw [first]
  rfl

end Ends

/-! ## What the owner of the CLAIM does (R161, R163, R167, R182) -/

section Claim

variable {v : State} {c : ClaimSlot} (held : v.line.claimSlot = some c)
include held

theorem State.messageSent_claim : v.messageSent .claim
    = (v.setLine { v.line with claimSlot := c.following }).claimCompleted c.mA c.next.isNone := by
  show v.claimSent = _
  unfold State.claimSent
  rw [held]

theorem State.messageFailed_claim_follows (next : c.next ≠ none) :
    v.messageFailed .claim = v.setLine { v.line with claimSlot := c.following } := by
  show v.claimFailed = _
  unfold State.claimFailed
  rw [held]
  exact if_pos (Option.isSome_iff_ne_none.2 next)

theorem State.messageFailed_claim_kept (last : c.next = none) (few : c.count < 16) : v.messageFailed .claim = v := by
  show v.claimFailed = _
  unfold State.claimFailed
  rw [held]
  exact (if_neg (by simp [last])).trans (if_neg (Nat.not_le.2 few))

theorem State.messageFailed_claim_dropped (last : c.next = none) (many : 16 ≤ c.count) :
    v.messageFailed .claim = (v.setLine { v.line with claimSlot := none }).claimDiscarded c.mA := by
  show v.claimFailed = _
  unfold State.claimFailed
  rw [held]
  exact (if_neg (by simp [last])).trans (if_pos many)

end Claim

theorem State.claimCompleted_settles {s : State} {x : Nat} (mA : Nat) (asks : s.bud.raise = .asking x) :
    s.claimCompleted mA true = s.setBud { s.bud with
      completed := mA, restateTimer := if mA = 0 then none else some (s.now + 1000000), raise := .settling x
      settleTimer := some (s.now + 40000) } := by
  unfold State.claimCompleted
  rw [asks]
  rfl

theorem State.claimCompleted_plain {s : State} (mA : Nat) {last : Bool}
    (rest : last = false ∨ ∀ x, s.bud.raise ≠ .asking x) :
    s.claimCompleted mA last = s.setBud { s.bud with
      completed := mA, restateTimer := if mA = 0 then none else some (s.now + 1000000) } := by
  unfold State.claimCompleted
  cases raise : s.bud.raise with
  | asking x =>
    rw [rest.resolve_right fun no => no x raise]
    rfl
  | none => rfl
  | settling x => rfl

theorem State.claimDiscarded_ends {s : State} {x : Nat} (mA : Nat) (asks : s.bud.raise = .asking x) :
    s.claimDiscarded mA = s.setBud { s.bud with
      restateTimer := if mA = 0 then s.bud.restateTimer else some (s.now + 1000000), raise := .none, own := s.bud.completed
      barrierTimer := some (s.now + s.line.addr.toNat * 100000) } := by
  unfold State.claimDiscarded
  rw [asks]
  rfl

theorem State.claimDiscarded_plain {s : State} (mA : Nat) (rest : ∀ x, s.bud.raise ≠ .asking x) :
    s.claimDiscarded mA = s.setBud { s.bud with
      restateTimer := if mA = 0 then s.bud.restateTimer else some (s.now + 1000000) } := by
  unfold State.claimDiscarded
  cases raise : s.bud.raise with
  | asking x => exact absurd raise (rest x)
  | none => rfl
  | settling x => rfl

/-! ## The other owners -/

theorem noticesSent_changed_break {e : NoticeEntry} {rest : List NoticeEntry} {k : Nat} (changed : e.changed = true)
    (old : e.notice = .breakReceived k) :
    noticesSent (e :: rest)
      = { e with notice := .breakReceived e.since, count := 0, changed := false, since := 0 } :: rest := by
  refine (if_pos changed).trans ?_
  rw [old]

theorem noticesSent_changed_other {e : NoticeEntry} {rest : List NoticeEntry} (changed : e.changed = true)
    (old : ∀ k, e.notice ≠ .breakReceived k) :
    noticesSent (e :: rest) = { e with count := 0, changed := false, since := 0 } :: rest := by
  refine (if_pos changed).trans ?_
  cases notice : e.notice with
  | breakReceived k => exact absurd notice (old k)
  | _ => rfl

theorem State.openWindow_opens {s : State} (waits : s.msg.window = .waitingPresent) :
    s.openWindow = s.setMsg { s.msg with window := .opened, windowTimer := some (s.now + 2000000) } := by
  unfold State.openWindow
  rw [waits]
  rfl

theorem State.openWindow_stays {s : State} (waits : s.msg.window ≠ .waitingPresent) : s.openWindow = s := by
  unfold State.openWindow
  cases window : s.msg.window with
  | waitingPresent => exact absurd window waits
  | _ => rfl

/-- Settles O52: each end of an attempt as the state it leaves, then each slot's owner. -/
theorem attemptEnds : Obligations.AttemptEnds := by
  unfold Obligations.AttemptEnds
  refine ⟨fun s a running => ?_, fun v c held => ?_, fun v => ?_, fun v => ?_⟩
  case refine_1 =>
    intro bit bits
    refine ⟨?_, fun k one => ?_, fun k zero => ?_⟩
    · obtain ⟨since, done⟩ := s.attemptDone_eq a
      refine ⟨s.endedAt (a.started + bits.length * bit - bit / 2) false .hunting .waiting false since, ?_, rfl⟩
      show execAttemptCompleted s = _
      simp only [execAttemptCompleted, running]
      exact congrArg (fun t => Host.Outcome.next (State.reviewed s t)) done
    · let l := s.line.afterLoss (decide (s.msg.op = .doze)) a k
      refine ⟨s.endedAt (s.bitRead a k) true l.chars l.message true l.wireSince, ?_,
        fun stop => Line.afterLoss_stop stop, fun inner => Line.afterLoss_chars inner, fun head => Line.afterLoss_head head, fun body inner awake own => ?_, rfl⟩
      · show execAttemptLost k s = _
        simp only [execAttemptLost, running]
        exact (if_pos one).trans (congrArg (fun t => Host.Outcome.next (State.reviewed s t)) (s.attemptFailsLost_eq a k))
      · show (s.line.afterLoss (decide (s.msg.op = .doze)) a k).message = _
        rw [decide_eq_false awake]
        exact Line.afterLoss_conflict body inner own
    · obtain ⟨since, first, fault⟩ := s.attemptFailsFault_eq a k
      refine ⟨s.endedAt (s.bitRead a k) true .hunting .waiting false since, ?_, first, rfl⟩
      show execLineFault k s = _
      simp only [execLineFault, running]
      exact (if_pos zero).trans (congrArg (fun t => Host.Outcome.next (State.reviewed s t)) fault)
  case refine_2 =>
    intro next w restate sent dropped
    have following : c.next ≠ none → ¬ c.next.isNone = true := fun some_ none_ => some_ (Option.isNone_iff_eq_none.1 none_)
    refine ⟨fun x last asks => ?_, fun rest => ?_, fun some_ => State.messageFailed_claim_follows held some_,
      fun last few => State.messageFailed_claim_kept held last few, fun x last many asks => ?_, fun last many rest => ?_⟩
    · rw [State.messageSent_claim held, Option.isNone_iff_eq_none.2 last]
      exact State.claimCompleted_settles c.mA asks
    · rw [State.messageSent_claim held]
      exact State.claimCompleted_plain c.mA (rest.imp_left fun some_ => Bool.eq_false_iff.2 (following some_))
    · have empty : next = none := by simp [next, last]
      rw [State.messageFailed_claim_dropped held last many,
        show w = v.setLine { v.line with claimSlot := none } from by rw [← empty]]
      exact State.claimDiscarded_ends c.mA asks
    · have empty : next = none := by simp [next, last]
      rw [State.messageFailed_claim_dropped held last many,
        show w = v.setLine { v.line with claimSlot := none } from by rw [← empty]]
      exact State.claimDiscarded_plain c.mA rest
  case refine_3 =>
    refine ⟨rfl, fun e rest queue => ?_, fun e rest queue => ?_, rfl, fun k slot => ?_⟩
    · show v.setLine { v.line with replies := repliesFailed v.line.replies } = _
      rw [queue]
      rfl
    · intro left fresh
      have sent : v.messageSent .notice = left (noticesSent (e :: rest)) := by rw [← queue]; rfl
      have failed : v.messageFailed .notice = left (noticesFailed (e :: rest)) := by rw [← queue]; rfl
      refine ⟨fun same => sent.trans (congrArg left (if_neg (by simp [same]))),
        fun k changed old => sent.trans (congrArg left (noticesSent_changed_break changed old)),
        fun changed old => sent.trans (congrArg left (noticesSent_changed_other changed old)),
        fun changed => failed.trans (congrArg left (if_pos changed)),
        fun same => failed.trans (congrArg left (if_neg (by simp [same])))⟩
    · show State.messageFailed v .keys = _
      simp only [State.messageFailed, slot]
      rfl
  case refine_4 =>
    refine ⟨rfl, rfl, fun n => ⟨fun cell w taken => ?_, fun none_ => ?_⟩, fun m slot => ?_, ?_, fun n slot => ?_⟩
    · rw [State.takeText, taken]
    · rw [State.takeText, none_]
    · simp only [State.messageFailed, slot]
      rfl
    · intro w
      exact ⟨fun waits => State.openWindow_opens (s := w) waits, fun waits => State.openWindow_stays (s := w) waits⟩
    · simp only [State.messageFailed, slot]
      rfl

end Sys2Proof.Machine

/-! PROOFS. How the receiver reads bits, characters and messages (R172 to R176, R194). -/

namespace Sys2Proof.Machine

theorem State.heard_eq (s : State) (t : Nat) :
    let u := s.advanceTo t
    s.heard t = u.setLine { u.line with
      chars := .hunting, message := .waiting, readTo := u.now, wireLow := false, wireSince := u.now - s.line.bit / 2 } := by
  intro u
  have line : u.line = s.line := by simp [u]
  show u.setLine { u.line with
    chars := .hunting, message := .waiting, readTo := u.now, wireLow := false, wireSince := u.now - u.line.bit / 2 } = _
  rw [line]

/-! ## Characters (R173) -/

/-- The bits of a character before its stop bit. -/
def charFront (marker : Bool) (c : Byte) : List Bool := [false] ++ (List.range 8).map c.getLsbD ++ [marker]

theorem charFront_length (marker : Bool) (c : Byte) : (charFront marker c).length = 10 := by simp [charFront]

theorem charBits_eq (marker : Bool) (c : Byte) : charBits marker c = charFront marker c ++ [true] := rfl

theorem charFront_marker (marker : Bool) (c : Byte) (last : Bool) : (charFront marker c ++ [last])[9]? = some marker := rfl

/-- The code read from a character's bits is the character. -/
theorem codeRead_charFront (marker : Bool) (c : Byte) (last : Bool) : codeRead (charFront marker c ++ [last]) = c := by
  have bits : (((charFront marker c ++ [last]).drop 1).take 8) = (List.range 8).map c.getLsbD := rfl
  refine BitVec.eq_of_getLsbD_eq fun i small => ?_
  rw [codeRead, bits, BitVec.getLsbD_ofNat, codeOfBits_testBit]
  simp [-BitVec.getLsbD_eq_getElem, small]

theorem toNat_head (c : Byte) : c.toNat = 16 * (headDest c).toNat + (headSource c).toNat := by
  have small := c.isLt
  simp only [headDest, headSource, BitVec.toNat_ofNat]
  omega

/-! ## One bit (R173) -/

/-- The receiver with another character state. -/
def Hearing.withChars (h : Hearing) (c : CharState) : Hearing := { h with line := { h.line with chars := c } }

/-- The receiver with another message state. -/
def Hearing.withMessage (h : Hearing) (m : MessageState) : Hearing := { h with line := { h.line with message := m } }

section Bit

variable {h : Hearing} {doze high : Bool} {t edge : Nat} {bits : List Bool}

theorem Hearing.readBit_falseStart : h.readBit doze t edge [] true = h.withChars .hunting := rfl

theorem Hearing.readBit_inner (few : bits.length < 10) (begun : bits ≠ [] ∨ high = false) :
    h.readBit doze t edge bits high = h.withChars (.reading edge (bits ++ [high])) := by
  refine (if_neg ?_).trans (if_pos (by simp; omega))
  rintro ⟨none_, one⟩
  exact begun.elim (absurd none_) (by simp [one])

theorem Hearing.readBit_framing (full : bits.length = 10) :
    h.readBit doze t edge bits false = (h.withChars .waitHigh).drop t (.rejected .framing) :=
  (if_neg (by simp)).trans <| (if_neg (by simp [full])).trans (if_neg (by decide))

theorem Hearing.readBit_complete (full : bits.length = 10) :
    h.readBit doze t edge bits true = if (bits ++ [true])[9]? = some true
      then (h.withChars .hunting).takeMarker doze t (codeRead (bits ++ [true]))
      else (h.withChars .hunting).takeNext t (codeRead (bits ++ [true])) :=
  (if_neg fun ⟨none_, _⟩ => by simp [none_] at full).trans <| (if_neg (by simp [full])).trans (if_pos rfl)

theorem Hearing.readBit_marker (c : Byte) :
    h.readBit doze t edge (charFront true c) true = (h.withChars .hunting).takeMarker doze t c := by
  rw [Hearing.readBit_complete (charFront_length _ _), charFront_marker, codeRead_charFront]
  exact if_pos rfl

theorem Hearing.readBit_next (c : Byte) :
    h.readBit doze t edge (charFront false c) true = (h.withChars .hunting).takeNext t c := by
  rw [Hearing.readBit_complete (charFront_length _ _), charFront_marker, codeRead_charFront]
  exact if_neg (by decide)

end Bit

theorem Hearing.drop_waiting {h : Hearing} (t : Nat) (e : WireEvent) (waits : h.line.message = .waiting) : h.drop t e = h := by
  obtain ⟨l, events⟩ := h
  unfold Hearing.drop
  dsimp only at waits ⊢
  rw [waits]
  show Hearing.mk { l with message := .waiting } events = _
  rw [← waits]

theorem Hearing.drop_taking {h : Hearing} {p : Purpose} {soFar : List Byte} (t : Nat) (e : WireEvent)
    (takes : h.line.message = .taking p soFar) :
    h.drop t e = { line := { h.line with message := .waiting }, events := h.events ++ [(t, e)] } := by
  unfold Hearing.drop
  rw [takes]
  rfl

/-! ## One character (R174, R175, R176, R194) -/

section Character

variable {h : Hearing} {t : Nat} {c : Byte}

theorem Line.headTest_eq (l : Line) (head : Byte) : l.headTest head
    = if headSource head = l.addr then .taking .conflict [head]
      else if headDest head = l.addr ∨ headDest head = 0 then .taking .delivery [head] else .waiting := rfl

theorem Line.dozeHeadTest_eq (l : Line) (head : Byte) : l.dozeHeadTest head
    = if headDest head = l.addr then if headSource head = l.addr then .taking .conflict [head] else .taking .delivery [head]
      else .waiting := by
  unfold Line.dozeHeadTest
  split
  case isTrue mine => rw [Line.headTest_eq, if_pos (Or.inl mine)]
  case isFalse => rfl

theorem Hearing.takeMarker_awake :
    h.takeMarker false t c = (h.drop t (.rejected (.newMarker c))).withMessage (h.line.headTest c) := by
  show (h.drop t _).withMessage ((h.drop t _).line.headTest c) = _
  rw [Hearing.drop_line]
  rfl

theorem Hearing.takeMarker_doze : h.takeMarker true t c
    = Hearing.withMessage { h with events := h.events ++ [(t, .marker c)] } (h.line.dozeHeadTest c) := rfl

theorem Hearing.takeNext_waiting (waits : h.line.message = .waiting) : h.takeNext t c = h := by
  unfold Hearing.takeNext
  rw [waits]

variable {p : Purpose} {soFar : List Byte}

theorem Hearing.takeNext_early (takes : h.line.message = .taking p soFar) (few : soFar.length < 2) :
    h.takeNext t c = h.withMessage (.taking p (soFar ++ [c])) := by
  have short : (soFar ++ [c])[2]? = none := List.getElem?_eq_none (by simp; omega)
  unfold Hearing.takeNext
  rw [takes]
  dsimp only
  rw [short]
  rfl

/-- The next character once the length is known. -/
theorem Hearing.takeNext_known {len : Byte} (takes : h.line.message = .taking p soFar) (known : (soFar ++ [c])[2]? = some len) :
    h.takeNext t c = if 64 < len.toNat then h.drop t (.rejected .badLength)
      else if (soFar ++ [c]).length = len.toNat + 4 then
        h.drop t (if byteSum (soFar ++ [c]) = 0 then .complete p (soFar ++ [c]) else .rejected .badCheck)
      else h.withMessage (.taking p (soFar ++ [c])) := by
  unfold Hearing.takeNext
  rw [takes]
  dsimp only
  rw [known]
  rfl

end Character

/-! ## The events of a wave -/

theorem State.heardEvent_iff (s : State) (wave : Wave) (e : WireEvent) :
    s.heardEvent wave = some e
      ↔ s.line.attempt = none ∧ (s.hear wave).events = [((s.hear wave).line.readTo, e)] := by
  unfold State.heardEvent
  dsimp only
  cases attempt : s.line.attempt with
  | some a => simp
  | none =>
    match events : (s.hear wave).events with
    | [] => simp
    | [(t, f)] =>
      by_cases now : t = (s.hear wave).line.readTo
      · simp [now]
      · simp [now]
    | _ :: _ :: _ => simp

end Sys2Proof.Machine

/-! PROOFS. The stretches of a wave: edges, the bits read in them, and the counts they reach (R172, R173, R176). -/

namespace Sys2Proof.Machine

theorem Line.bit_even (l : Line) : l.bit = 2 * (l.bit / 2) ∧ 0 < l.bit / 2 := by
  unfold Line.bit bitTime
  cases l.fast <;> decide

/-! ## Edges (R172, R173) -/

section Edge

variable {l : Line} {high : Bool}

theorem Line.edge_kept (same : l.wireLow = !high) : l.edge high = l := if_pos (by simp [same])

theorem Line.edge_turned (turned : l.wireLow ≠ !high) : (l.edge high) = { l with
    wireLow := !high, wireSince := l.readTo, chars := (l.edge high).chars } := by
  have shape : l.edge high = (if high = !l.wireLow then l else _) := rfl
  rw [shape, if_neg (by cases high <;> simp_all)]

theorem Line.edge_fall (high_ : l.wireLow = false) (looks : l.chars = .hunting) :
    l.edge false = { l with wireLow := true, wireSince := l.readTo, chars := .reading l.readTo [] } := by
  unfold Line.edge
  rw [high_, looks]
  rfl

theorem Line.edge_rise (low : l.wireLow = true) (waits : l.chars = .waitHigh) :
    l.edge true = { l with wireLow := false, wireSince := l.readTo, chars := .hunting } := by
  unfold Line.edge
  rw [low, waits]
  rfl

/-- An edge in a character changes the level alone. -/
theorem Line.edge_reading {edge : Nat} {bits : List Bool} (reads : l.chars = .reading edge bits) :
    l.edge high = { l with
      wireLow := !high, wireSince := if l.wireLow = !high then l.wireSince else l.readTo } := by
  by_cases same : l.wireLow = !high
  · rw [Line.edge_kept same, if_pos same, ← same]
  · have chars : (l.edge high).chars = l.chars := by
      have shape : l.edge high = (if high = !l.wireLow then l else _) := rfl
      rw [shape, if_neg (by cases high <;> simp_all), reads]
    rw [Line.edge_turned same, if_neg same, chars]

end Edge

/-! ## The bits of a stretch (R173) -/

section Bits

variable {h : Hearing} {doze high : Bool} {till : Nat}

theorem Hearing.readBits_idle (n : Nat) (idle : ∀ edge bits, h.line.chars ≠ .reading edge bits) :
    Hearing.readBits doze high till n h = h := by
  cases n with
  | zero => rfl
  | succ n =>
    unfold Hearing.readBits
    cases chars : h.line.chars with
    | reading edge bits => exact absurd chars (idle edge bits)
    | hunting => rfl
    | waitHigh => rfl

variable {edge : Nat} {bits : List Bool} (reads : h.line.chars = .reading edge bits)
include reads

theorem Hearing.readBits_later (n : Nat) (later : till < edge + bits.length * h.line.bit + h.line.bit / 2) :
    Hearing.readBits doze high till n h = h := by
  cases n with
  | zero => rfl
  | succ n =>
    unfold Hearing.readBits
    rw [reads]
    exact if_neg (Nat.not_le.2 later)

theorem Hearing.readBits_due (n : Nat) (due : edge + bits.length * h.line.bit + h.line.bit / 2 ≤ till) :
    Hearing.readBits doze high till (n + 1) h = Hearing.readBits doze high till n
      (h.readBit doze (edge + bits.length * h.line.bit + h.line.bit / 2) edge bits high) := by
  conv_lhs => unfold Hearing.readBits
  rw [reads]
  exact if_pos due

end Bits

/-! ## The counts (R172, R176) -/

section Count

variable {h : Hearing} {till : Nat}

theorem Hearing.count_low (low : h.line.wireLow = true) (short : till < h.line.wireSince + 24 * h.line.bit) : h.count till = h :=
  (if_pos low).trans (if_neg fun ⟨_, reached⟩ => Nat.not_le.2 short reached)

theorem Hearing.count_break (low : h.line.wireLow = true) (before : h.line.readTo < h.line.wireSince + 24 * h.line.bit)
    (reached : h.line.wireSince + 24 * h.line.bit ≤ till) :
    h.count till = { line := { h.line with chars := .waitHigh, message := .waiting }
                     events := h.events ++ [(h.line.wireSince + 24 * h.line.bit, .lineBreak)] } :=
  (if_pos low).trans (if_pos ⟨before, reached⟩)

theorem Hearing.count_high (high : h.line.wireLow = false)
    (quiet : till < h.line.wireSince + 14 * h.line.bit ∨ h.line.message = .waiting) : h.count till = h := by
  refine (if_neg (by simp [high])).trans ?_
  split
  case isTrue reached => exact Hearing.drop_waiting _ _ (quiet.resolve_left (Nat.not_lt.2 reached.2))
  case isFalse => rfl

theorem Hearing.count_idle (high : h.line.wireLow = false) (before : h.line.readTo < h.line.wireSince + 14 * h.line.bit)
    (reached : h.line.wireSince + 14 * h.line.bit ≤ till) :
    h.count till = h.drop (h.line.wireSince + 14 * h.line.bit) (.rejected .idleWire) :=
  (if_neg (by simp [high])).trans (if_pos ⟨before, reached⟩)

end Count

/-- The receiver has read up to a moment. -/
def Hearing.readUpTo (h : Hearing) (till : Nat) : Hearing := { h with line := { h.line with readTo := till } }

/-- A stretch of the wire is its edge, the bits in it, and the count. -/
theorem Hearing.run_eq {h : Hearing} {doze : Bool} {r : WireRun} (some_ : 0 < r.length) :
    h.run doze r = ((Hearing.readBits doze r.high (h.line.readTo + r.length) 11 { h with line := h.line.edge r.high }).count
      (h.line.readTo + r.length)).readUpTo (h.line.readTo + r.length) :=
  if_neg (by omega)

/-- A receiver that has read part of a character reads the rest of it low: a framing error. -/
theorem Hearing.readBits_low {h : Hearing} {doze : Bool} {till edge : Nat} {bits : List Bool} (n : Nat)
    (reads : h.line.chars = .reading edge bits) (left : bits.length + n = 10) (waits : h.line.message = .waiting)
    (due : edge + 10 * h.line.bit + h.line.bit / 2 ≤ till) :
    Hearing.readBits doze false till (n + 1) h = h.withChars .waitHigh := by
  have now : edge + bits.length * h.line.bit + h.line.bit / 2 ≤ till := by
    have := Nat.mul_le_mul_right h.line.bit (show bits.length ≤ 10 by omega)
    omega
  induction n generalizing h bits with
  | zero =>
    rw [Hearing.readBits_due reads 0 now, Hearing.readBit_framing left]
    exact Hearing.drop_waiting _ _ waits
  | succ n ih =>
    rw [Hearing.readBits_due reads (n + 1) now, Hearing.readBit_inner (by omega) (Or.inr rfl)]
    refine (ih (h := h.withChars _) (bits := bits ++ [false]) rfl (by simp; omega) waits due ?_).trans rfl
    have := Nat.mul_le_mul_right h.line.bit (show (bits ++ [false]).length ≤ 10 by simp; omega)
    show edge + (bits ++ [false]).length * h.line.bit + h.line.bit / 2 ≤ till
    omega

/-! ## Short waves -/

section Waves

variable {l : Line} (doze : Bool) {n k : Nat} (some_ : 0 < n)
include some_

theorem Line.hear_glitch (looks : l.chars = .hunting) (high : l.wireLow = false) (short : n < l.bit / 2)
    (read : l.bit / 2 ≤ n + k) (soon : k < 14 * l.bit) :
    l.hear doze [{ high := false, length := n }, { high := true, length := k }]
      = { line := { l with readTo := l.readTo + n + k, wireSince := l.readTo + n }, events := [] } := by
  let low : Line := { l with
    wireLow := true, wireSince := l.readTo, chars := .reading l.readTo [], readTo := l.readTo + n }
  let back : Line := { l with
    wireLow := false, wireSince := l.readTo + n, chars := .reading l.readTo [], readTo := l.readTo + n }
  have even := l.bit_even
  have fall : Hearing.run doze { line := l, events := [] } { high := false, length := n } = { line := low, events := [] } := by
    rw [Hearing.run_eq some_]
    dsimp only
    rw [Line.edge_fall high looks, Hearing.readBits_later (edge := l.readTo) (bits := []) rfl, Hearing.count_low rfl]
    · rfl
    · show l.readTo + n < l.readTo + 24 * l.bit
      omega
    · show l.readTo + n < l.readTo + 0 * l.bit + l.bit / 2
      omega
  have rise : Hearing.run doze { line := low, events := [] } { high := true, length := k }
      = { line := { l with readTo := l.readTo + n + k, wireSince := l.readTo + n }, events := [] } := by
    have edge : low.edge true = back := Line.edge_reading (l := low) (edge := l.readTo) (bits := []) rfl
    rw [Hearing.run_eq (show 0 < k by omega)]
    dsimp only
    rw [edge, Hearing.readBits_due (edge := l.readTo) (bits := []) rfl, Hearing.readBit_falseStart,
      Hearing.readBits_idle _ (by rintro _ _ ⟨⟩), Hearing.count_high rfl]
    · show Hearing.mk { l with wireLow := false, wireSince := _, chars := .hunting, readTo := _ } [] = _
      rw [← looks, ← high]
      rfl
    · left
      show l.readTo + n + k < l.readTo + n + 14 * l.bit
      omega
    · show l.readTo + 0 * l.bit + l.bit / 2 ≤ l.readTo + n + k
      omega
  exact (congrArg (fun h => Hearing.run doze h { high := true, length := k }) fall).trans rise

omit some_ in
theorem Line.hear_break (looks : l.chars = .hunting) (waits : l.message = .waiting) (high : l.wireLow = false) :
    l.hear doze [{ high := false, length := 24 * l.bit }]
      = { line := { l with chars := .waitHigh, readTo := l.readTo + 24 * l.bit, wireLow := true, wireSince := l.readTo }
          events := [(l.readTo + 24 * l.bit, .lineBreak)] } := by
  have even := l.bit_even
  show Hearing.run doze { line := l, events := [] } _ = _
  rw [Hearing.run_eq (show 0 < 24 * l.bit by omega)]
  dsimp only
  rw [Line.edge_fall high looks, Hearing.readBits_low (edge := l.readTo) (bits := []) 10 rfl rfl waits, Hearing.count_break rfl]
  · show Hearing.mk { l with
      chars := .waitHigh, message := .waiting, wireLow := true, wireSince := l.readTo, readTo := _ } _ = _
    rw [← waits]
    rfl
  · show l.readTo < l.readTo + 24 * l.bit
    omega
  · exact Nat.le_refl _
  · show l.readTo + 10 * l.bit + l.bit / 2 ≤ l.readTo + 24 * l.bit
    omega

theorem Line.hear_rise (waits : l.chars = .waitHigh) (low : l.wireLow = true) (soon : n < 14 * l.bit) :
    l.hear doze [{ high := true, length := n }]
      = { line := { l with chars := .hunting, readTo := l.readTo + n, wireLow := false, wireSince := l.readTo }
          events := [] } := by
  show Hearing.run doze { line := l, events := [] } _ = _
  rw [Hearing.run_eq some_]
  dsimp only
  rw [Line.edge_rise low waits, Hearing.readBits_idle _ (by rintro _ _ ⟨⟩), Hearing.count_high rfl]
  · rfl
  · left
    show l.readTo + n < l.readTo + 14 * l.bit
    omega

theorem Line.hear_idle {p : Purpose} {soFar : List Byte} (looks : l.chars = .hunting) (takes : l.message = .taking p soFar)
    (high : l.wireLow = false) (before : l.readTo < l.wireSince + 14 * l.bit) (reached : l.wireSince + 14 * l.bit ≤ l.readTo + n) :
    l.hear doze [{ high := true, length := n }]
      = { line := { l with message := .waiting, readTo := l.readTo + n }
          events := [(l.wireSince + 14 * l.bit, .rejected .idleWire)] } := by
  show Hearing.run doze { line := l, events := [] } _ = _
  rw [Hearing.run_eq some_]
  dsimp only
  rw [Line.edge_kept high, Hearing.readBits_idle _ (by simp [looks]), Hearing.count_idle high before reached,
    Hearing.drop_taking _ _ takes]
  rfl

end Waves

/-- Settles O53: the receiver by bits, characters and messages, and what short waves bring. -/
theorem receiverRules : Obligations.ReceiverRules := by
  unfold Obligations.ReceiverRules
  refine ⟨State.heard_eq, fun marker c head rest bytes => ⟨rfl, rfl, toNat_head c, byteSum_toNat bytes⟩, fun s wave => ?_,
    fun h doze t edge bits high e => ?_, fun h t c => ?_, fun l doze n k some_ => ?_⟩
  case refine_1 =>
    intro heard u brings
    have heardEvent (e : WireEvent) : s.heardEvent wave = some e ↔ brings e := s.heardEvent_iff wave e
    refine ⟨fun broke => ?_, fun whole => ?_, fun c lost => ?_, fun c whole => ?_⟩
    · show execWireBreak wave s = _
      rw [execWireBreak, (heardEvent _).2 broke]
      rfl
    · show execWireBreak wave s = _
      unfold execWireBreak
      split
      case h_1 event => exact absurd ((heardEvent _).1 event) whole
      case h_2 => rfl
    · show execMessageRejected wave c s = _
      rw [execMessageRejected, (heardEvent _).2 lost]
      exact congrArg Host.Outcome.next (if_pos rfl)
    · show execMessageRejected wave c s = _
      unfold execMessageRejected
      split
      case h_1 d event =>
        refine congrArg Host.Outcome.next (if_neg fun same => whole ?_)
        rw [← same]
        exact (heardEvent _).1 event
      case h_2 => rfl
  case refine_2 =>
    exact ⟨Hearing.readBit_falseStart, Hearing.readBit_inner, fun c => ⟨Hearing.readBit_marker c, Hearing.readBit_next c⟩,
      Hearing.readBit_framing, Hearing.drop_waiting t e, fun p soFar takes => Hearing.drop_taking t e takes⟩
  case refine_3 =>
    refine ⟨Hearing.takeMarker_awake, ?_, Hearing.takeNext_waiting, fun p soFar => Hearing.takeNext_early,
      fun p a b takes => ?_, fun p a b len rest takes fits => ?_⟩
    · rw [Hearing.takeMarker_doze, Line.dozeHeadTest_eq]
      rfl
    · have known := Hearing.takeNext_known (t := t) (c := c) takes rfl
      exact ⟨fun long => known.trans (if_pos long), fun fits => known.trans <|
        (if_neg (Nat.not_lt.2 fits)).trans (if_neg (show ¬ 3 = c.toNat + 4 by omega))⟩
    · intro all
      have known := (Hearing.takeNext_known (t := t) (c := c) takes rfl).trans (if_neg (Nat.not_lt.2 fits))
      have length : (a :: b :: len :: rest ++ [c]).length = rest.length + 4 := by simp
      refine ⟨fun more => known.trans (if_neg (by rw [length]; omega)), fun last => ?_⟩
      have whole := known.trans (if_pos (by rw [length]; omega))
      exact ⟨fun good => whole.trans (congrArg _ (if_pos good)), fun bad => whole.trans (congrArg _ (if_neg bad))⟩
  case refine_4 =>
    exact ⟨Line.hear_glitch doze some_, Line.hear_break doze, Line.hear_rise doze some_,
      fun p soFar => Line.hear_idle doze some_⟩

end Sys2Proof.Machine

/-! PROOFS. A message sent bit by bit, as the receiver reads it (R173, R174, R175). -/

namespace Sys2Proof.Machine

/-! ## One bit of a character as a stretch of the wire (R173) -/

/-- The line `l` whose receiver has read those bits of a character, from its start edge on. -/
def Line.inChar (l : Line) (edge : Nat) (bits : List Bool) (since : Nat) : Line :=
  { l with chars := .reading edge bits, readTo := edge + bits.length * l.bit, wireLow := !bits.getLastD true, wireSince := since }

/-- The line `l` whose receiver looks for a start edge on a high wire. -/
def Line.between (l : Line) (message : MessageState) (readTo since : Nat) : Line :=
  { l with chars := .hunting, message := message, readTo := readTo, wireLow := false, wireSince := since }

/-- Bits as stretches of the wire. -/
def bitRuns (bit : Nat) (bits : List Bool) : Wave := bits.map fun b => { high := b, length := bit }

section Bits

variable (l : Line) (doze : Bool) {edge since : Nat} {bits : List Bool} (events : List (Nat × WireEvent))

theorem Hearing.run_startBit (message : MessageState) (readTo : Nat) :
    Hearing.run doze { line := l.between message readTo since, events := events } { high := false, length := l.bit }
      = { line := { l with message := message }.inChar readTo [false] readTo, events := events } := by
  have even := l.bit_even
  rw [Hearing.run_eq (show 0 < l.bit by omega)]
  dsimp only
  rw [Line.edge_fall rfl rfl, Hearing.readBits_due (edge := readTo) (bits := []) rfl, Hearing.readBit_inner (by decide) (Or.inr rfl),
    Hearing.readBits_later (edge := readTo) (bits := [false]) rfl, Hearing.count_low rfl]
  · show Hearing.mk { l with
      chars := .reading readTo [false], message := message, readTo := readTo + l.bit, wireLow := true, wireSince := readTo } events = _
    rw [← Nat.one_mul l.bit]
    rfl
  · show readTo + l.bit < readTo + 24 * l.bit
    omega
  · show readTo + l.bit < readTo + 1 * l.bit + l.bit / 2
    omega
  · show readTo + 0 * l.bit + l.bit / 2 ≤ readTo + l.bit
    omega

/-- Inside a character the counts reach nothing, so a stretch of one bit time is one bit. -/
theorem Hearing.run_innerBit (b : Bool) (begun : bits ≠ []) (few : bits.length < 10) (after : edge ≤ since) :
    ∃ since', edge ≤ since' ∧
      Hearing.run doze { line := l.inChar edge bits since, events := events } { high := b, length := l.bit }
        = { line := l.inChar edge (bits ++ [b]) since', events := events } := by
  have even := l.bit_even
  have till : edge + bits.length * l.bit + l.bit = edge + (bits ++ [b]).length * l.bit := by
    rw [List.length_append, List.length_singleton, Nat.succ_mul, Nat.add_assoc]
  have most : edge + (bits ++ [b]).length * l.bit ≤ edge + 10 * l.bit :=
    Nat.add_le_add_left (Nat.mul_le_mul_right _ (by simp; omega)) _
  let since' := if (!bits.getLastD true) = !b then since else edge + bits.length * l.bit
  have later : edge ≤ since' := by
    show edge ≤ if (!bits.getLastD true) = !b then since else edge + bits.length * l.bit
    split <;> omega
  have last : (bits ++ [b]).getLastD true = b := List.getLastD_concat ..
  refine ⟨since', later, ?_⟩
  rw [Hearing.run_eq (show 0 < l.bit by omega)]
  dsimp only
  rw [Line.edge_reading (edge := edge) (bits := bits) rfl, Hearing.readBits_due (edge := edge) (bits := bits) rfl,
    Hearing.readBit_inner few (Or.inl begun), Hearing.readBits_later (edge := edge) (bits := bits ++ [b]) rfl]
  · have counted : ∀ h : Hearing, h.line.wireSince = since' → h.line.bit = l.bit →
        h.count (edge + bits.length * l.bit + l.bit) = h := by
      intro h from_ bit
      cases low : h.line.wireLow with
      | true => exact Hearing.count_low low (by rw [from_, bit]; omega)
      | false => exact Hearing.count_high low (Or.inl (by rw [from_, bit]; omega))
    refine (congrArg (Hearing.readUpTo · _) (counted _ rfl rfl)).trans ?_
    show Hearing.mk { l with
      chars := .reading edge (bits ++ [b]), readTo := edge + bits.length * l.bit + l.bit, wireLow := !b, wireSince := since' }
        events = _
    rw [till, Line.inChar, last]
  · show edge + bits.length * l.bit + l.bit < edge + (bits ++ [b]).length * l.bit + l.bit / 2
    omega
  · show edge + bits.length * l.bit + l.bit / 2 ≤ edge + bits.length * l.bit + l.bit
    omega

theorem Hearing.run_innerBits (ds : List Bool) (begun : bits ≠ []) (few : bits.length + ds.length ≤ 10) (after : edge ≤ since) :
    ∃ since', edge ≤ since' ∧
      (bitRuns l.bit ds).foldl (Hearing.run doze) { line := l.inChar edge bits since, events := events }
        = { line := l.inChar edge (bits ++ ds) since', events := events } := by
  induction ds generalizing bits since with
  | nil => exact ⟨since, after, by rw [List.append_nil]; rfl⟩
  | cons b ds ih =>
    rw [List.length_cons] at few
    obtain ⟨since₁, after₁, first⟩ := Hearing.run_innerBit l doze events b begun (by omega) after
    obtain ⟨since₂, after₂, rest⟩ := ih (bits := bits ++ [b]) (by simp) (by simp; omega) after₁
    refine ⟨since₂, after₂, ?_⟩
    rw [← List.append_cons] at rest
    exact (congrArg ((bitRuns l.bit ds).foldl (Hearing.run doze)) first).trans rest

end Bits

/-! ## One character (R173) -/

/-- A complete character makes a message state into another, with those events, whatever else the receiver holds. -/
def Makes (addr : Addr) (doze marker : Bool) (t : Nat) (c : Byte) (before after : MessageState)
    (found : List (Nat × WireEvent)) : Prop :=
  ∀ h : Hearing, h.line.addr = addr → h.line.message = before →
    (if marker then h.takeMarker doze t c else h.takeNext t c)
      = { line := { h.line with message := after }, events := h.events ++ found }

section Character

variable {l : Line} {doze marker : Bool} {c : Byte} {before after : MessageState} {found : List (Nat × WireEvent)}

/-- The stop bit, read at its middle, completes the character. -/
theorem Hearing.run_stopBit {edge since n : Nat} (events : List (Nat × WireEvent))
    (makes : Makes l.addr doze marker (edge + 10 * l.bit + l.bit / 2) c l.message after found)
    (from_ : edge ≤ since) (half : l.bit / 2 ≤ n) (whole : n ≤ l.bit) :
    ∃ since', (marker = false → since' = edge + 10 * l.bit) ∧
      Hearing.run doze { line := l.inChar edge (charFront marker c) since, events := events } { high := true, length := n }
        = { line := l.between after (edge + 10 * l.bit + n) since', events := events ++ found } := by
  have even := l.bit_even
  have length := charFront_length marker c
  have last : (charFront marker c).getLastD true = marker := List.getLastD_concat ..
  let since' := if (!marker) = false then since else edge + 10 * l.bit
  have later : edge ≤ since' := by
    show edge ≤ if (!marker) = false then since else edge + 10 * l.bit
    split <;> omega
  let read : Hearing :=
    { line := { l with
        chars := .reading edge (charFront marker c), readTo := edge + 10 * l.bit, wireLow := false, wireSince := since' }
      events := events }
  have edge_ : (l.inChar edge (charFront marker c) since).edge true = read.line := by
    rw [Line.edge_reading (edge := edge) (bits := charFront marker c) rfl]
    simp only [Line.inChar, last, length]
    rfl
  have complete : read.readBit doze (edge + 10 * l.bit + l.bit / 2) edge (charFront marker c) true
      = { line := { l with
            chars := .hunting, message := after, readTo := edge + 10 * l.bit, wireLow := false, wireSince := since' }
          events := events ++ found } := by
    rw [Hearing.readBit_complete length, charFront_marker, codeRead_charFront]
    have made := makes (read.withChars .hunting) rfl rfl
    cases marker <;> exact made
  have till : (l.inChar edge (charFront marker c) since).readTo + n = edge + 10 * l.bit + n := by
    show edge + (charFront marker c).length * l.bit + n = _
    rw [length]
  refine ⟨since', fun zero => if_neg (by simp [zero]), ?_⟩
  rw [Hearing.run_eq (show 0 < n by omega)]
  dsimp only
  rw [till, edge_]
  have due : edge + (charFront marker c).length * l.bit + l.bit / 2 ≤ edge + 10 * l.bit + n := by
    rw [length]
    omega
  rw [Hearing.readBits_due (h := read) (edge := edge) (bits := charFront marker c) rfl 10 due, length]
  refine (congrArg (fun h => ((Hearing.readBits doze true (edge + 10 * l.bit + n) 10 h).count (edge + 10 * l.bit + n)).readUpTo
    (edge + 10 * l.bit + n)) complete).trans ?_
  rw [Hearing.readBits_idle _ (by rintro _ _ ⟨⟩), Hearing.count_high rfl]
  · rfl
  · left
    show edge + 10 * l.bit + n < since' + 14 * l.bit
    omega

/-- The bits of a character before its stop bit. -/
theorem Hearing.run_front (doze marker : Bool) (c : Byte) (readTo since : Nat) (events : List (Nat × WireEvent)) :
    ∃ since', readTo ≤ since' ∧
      (bitRuns l.bit (charFront marker c)).foldl (Hearing.run doze) { line := l.between before readTo since, events := events }
        = { line := { l with message := before }.inChar readTo (charFront marker c) since', events := events } := by
  obtain ⟨since', after, rest⟩ := Hearing.run_innerBits { l with message := before } doze events
    ((List.range 8).map c.getLsbD ++ [marker]) (edge := readTo) (since := readTo) (bits := [false]) (by simp) (by simp) le_rfl
  have split : charFront marker c = false :: ((List.range 8).map c.getLsbD ++ [marker]) := rfl
  have runs : bitRuns l.bit (charFront marker c)
      = { high := false, length := l.bit } :: bitRuns l.bit ((List.range 8).map c.getLsbD ++ [marker]) := by
    rw [split, bitRuns, List.map_cons]
    rfl
  refine ⟨since', after, ?_⟩
  rw [runs, List.foldl_cons, Hearing.run_startBit, split]
  exact rest

/-- A character, with a stop bit of that length. -/
theorem Hearing.run_char {readTo n : Nat} (since : Nat) (events : List (Nat × WireEvent))
    (makes : Makes l.addr doze marker (readTo + 10 * l.bit + l.bit / 2) c before after found)
    (half : l.bit / 2 ≤ n) (whole : n ≤ l.bit) :
    ∃ since', (marker = false → since' = readTo + 10 * l.bit) ∧
      (bitRuns l.bit (charFront marker c) ++ [({ high := true, length := n } : WireRun)]).foldl (Hearing.run doze)
          { line := l.between before readTo since, events := events }
        = { line := l.between after (readTo + 10 * l.bit + n) since', events := events ++ found } := by
  obtain ⟨since₁, after₁, front⟩ := Hearing.run_front (l := l) (before := before) doze marker c readTo since events
  obtain ⟨since₂, zero, stop⟩ := Hearing.run_stopBit (l := { l with message := before }) events makes after₁ half whole
  refine ⟨since₂, zero, ?_⟩
  rw [List.foldl_append, front]
  exact stop

end Character

end Sys2Proof.Machine

/-! PROOFS. A whole message on the wire, and the command it is (R174, R175, R184). -/

namespace Sys2Proof.Machine

/-! ## The characters of a message (R174) -/

/-- A character as stretches of the wire. -/
def charRuns (bit : Nat) (marker : Bool) (c : Byte) : Wave :=
  bitRuns bit (charFront marker c) ++ [({ high := true, length := bit } : WireRun)]

theorem bitRuns_charBits (bit : Nat) (marker : Bool) (c : Byte) : bitRuns bit (charBits marker c) = charRuns bit marker c := by
  rw [charBits_eq, bitRuns, List.map_append]
  rfl

theorem bitRuns_flatMap (bit : Nat) (cs : List Byte) :
    bitRuns bit (cs.flatMap (charBits false)) = cs.flatMap (charRuns bit false) := by
  rw [bitRuns, List.map_flatMap]
  exact List.flatMap_congr fun c _ => bitRuns_charBits bit false c

/-- The wave of a message: high wire, its characters, and the last one up to the middle of its stop bit. -/
theorem messageWave_eq (bit gap : Nat) (head : Byte) (mid : List Byte) (check : Byte) :
    messageWave bit gap (head :: (mid ++ [check]))
      = { high := true, length := gap } :: (charRuns bit true head ++ (mid.flatMap (charRuns bit false)
        ++ (bitRuns bit (charFront false check) ++ [({ high := true, length := bit / 2 } : WireRun)]))) := by
  have bits : (messageBits (head :: (mid ++ [check]))).dropLast
      = charBits true head ++ (mid.flatMap (charBits false) ++ charFront false check) := by
    have whole : messageBits (head :: (mid ++ [check]))
        = (charBits true head ++ (mid.flatMap (charBits false) ++ charFront false check)) ++ [true] := by
      rw [messageBits, List.flatMap_append, List.flatMap_singleton, charBits_eq false check]
      simp only [List.append_assoc]
    rw [whole, List.dropLast_concat]
  have runs : (messageBits (head :: (mid ++ [check]))).dropLast.map (fun b => ({ high := b, length := bit } : WireRun))
      = charRuns bit true head ++ (mid.flatMap (charRuns bit false) ++ bitRuns bit (charFront false check)) := by
    rw [bits, List.map_append, List.map_append, ← bitRuns_charBits, ← bitRuns_flatMap]
    rfl
  rw [messageWave, runs]
  simp only [List.append_assoc, List.cons_append]

section Message

variable {l : Line} {doze : Bool} {mid : List Byte} {st : List Byte → MessageState}

/-- High wire before a message: a receiver that looks for a start edge, with no message begun, waits on. -/
theorem Hearing.run_gap (gap : Nat) (looks : l.chars = .hunting) (waits : l.message = .waiting) (high : l.wireLow = false) :
    Hearing.run doze { line := l, events := [] } { high := true, length := gap }
      = { line := l.between .waiting (l.readTo + gap) l.wireSince, events := [] } := by
  have rested : Hearing.mk { l with readTo := l.readTo + gap } []
      = { line := l.between .waiting (l.readTo + gap) l.wireSince, events := [] } := by
    unfold Line.between
    rw [← looks, ← waits, ← high]
  rw [← rested]
  by_cases none_ : gap = 0
  · exact (if_pos none_).trans (by rw [none_]; rfl)
  · rw [Hearing.run_eq (show 0 < gap by omega)]
    dsimp only
    rw [Line.edge_kept high, Hearing.readBits_idle _ (by simp [looks]), Hearing.count_high high (Or.inr waits)]
    rfl

/-- The characters between the head and the check. -/
theorem Hearing.run_mid
    (inner : ∀ soFar c rest, mid = soFar ++ c :: rest → ∀ t, Makes l.addr doze false t c (st soFar) (st (soFar ++ [c])) [])
    (rest : List Byte) {soFar : List Byte} (split : mid = soFar ++ rest) (readTo since : Nat) :
    ∃ since', (rest.flatMap (charRuns l.bit false)).foldl (Hearing.run doze)
        { line := l.between (st soFar) readTo since, events := [] }
      = { line := l.between (st mid) (readTo + 11 * rest.length * l.bit) since', events := [] } := by
  induction rest generalizing soFar readTo since with
  | nil =>
    rw [List.append_nil] at split
    exact ⟨since, by rw [split, List.length_nil, Nat.mul_zero, Nat.zero_mul]; rfl⟩
  | cons c rest ih =>
    have even := l.bit_even
    obtain ⟨since₁, -, first⟩ := Hearing.run_char (l := l) since [] (inner soFar c rest split (readTo + 10 * l.bit + l.bit / 2))
      (show l.bit / 2 ≤ l.bit by omega) le_rfl
    obtain ⟨since₂, others⟩ := ih (soFar := soFar ++ [c]) (by rw [split]; simp) (readTo + 10 * l.bit + l.bit) since₁
    have end_ : readTo + 10 * l.bit + l.bit + 11 * rest.length * l.bit = readTo + 11 * (c :: rest).length * l.bit := by
      rw [List.length_cons]
      ring
    refine ⟨since₂, ?_⟩
    rw [end_] at others
    rw [List.flatMap_cons, List.foldl_append]
    exact (congrArg ((rest.flatMap (charRuns l.bit false)).foldl (Hearing.run doze)) first).trans others

/-- A message sent bit by bit: what its head, its further characters and its check make of the message state. -/
theorem Line.hear_message {head check : Byte} {found : List (Nat × WireEvent)} (gap : Nat)
    (looks : l.chars = .hunting) (waits : l.message = .waiting) (high : l.wireLow = false)
    (begins : ∀ t, Makes l.addr doze true t head .waiting (st []) [])
    (inner : ∀ soFar c rest, mid = soFar ++ c :: rest → ∀ t, Makes l.addr doze false t c (st soFar) (st (soFar ++ [c])) [])
    (ends : Makes l.addr doze false (l.readTo + gap + 11 * (mid.length + 2) * l.bit - l.bit / 2) check (st mid) .waiting found) :
    l.hear doze (messageWave l.bit gap (head :: (mid ++ [check])))
      = { line := l.between .waiting (l.readTo + gap + 11 * (mid.length + 2) * l.bit - l.bit / 2)
            (l.readTo + gap + 11 * (mid.length + 2) * l.bit - l.bit / 2 - l.bit / 2)
          events := found } := by
  obtain ⟨even, pos⟩ := l.bit_even
  obtain ⟨since₁, -, first⟩ := Hearing.run_char (l := l) l.wireSince [] (begins (l.readTo + gap + 10 * l.bit + l.bit / 2))
    (show l.bit / 2 ≤ l.bit by omega) le_rfl
  obtain ⟨since₂, middle⟩ := Hearing.run_mid inner mid (soFar := []) rfl (l.readTo + gap + 10 * l.bit + l.bit) since₁
  let start := l.readTo + gap + 10 * l.bit + l.bit + 11 * mid.length * l.bit
  have end_ : l.readTo + gap + 11 * (mid.length + 2) * l.bit - l.bit / 2 = start + 10 * l.bit + l.bit / 2 := by
    have whole : l.readTo + gap + 11 * (mid.length + 2) * l.bit = start + 11 * l.bit := by
      show _ = l.readTo + gap + 10 * l.bit + l.bit + 11 * mid.length * l.bit + 11 * l.bit
      ring
    omega
  rw [end_] at ends ⊢
  obtain ⟨since₃, zero, last⟩ := Hearing.run_char since₂ [] ends (le_refl (l.bit / 2)) (show l.bit / 2 ≤ l.bit by omega)
  rw [zero rfl] at last
  rw [messageWave_eq, Line.hear, List.foldl_cons, Hearing.run_gap gap looks waits high, List.foldl_append, charRuns, first,
    List.foldl_append, List.append_nil, middle, last, Nat.add_sub_cancel]
  rfl

end Message

/-! ## Taken or passed over (R175) -/

section Taken

variable {addr : Addr} {t : Nat} {c head check : Byte} {p : Purpose} {mid : List Byte}

theorem makes_head {m : MessageState} (test : ∀ l : Line, l.addr = addr → l.headTest head = m) :
    Makes addr false true t head .waiting m [] := by
  intro h own waits
  refine (if_pos rfl).trans ?_
  rw [Hearing.takeMarker_awake, Hearing.drop_waiting _ _ waits, test h.line own, List.append_nil]
  rfl

theorem makes_passed : Makes addr false false t c .waiting .waiting [] := by
  intro h _ waits
  refine (if_neg (by decide)).trans ?_
  rw [Hearing.takeNext_waiting waits, List.append_nil, ← waits]

/-- A character before a valid message's check joins the message. -/
theorem makes_inner {soFar rest : List Byte} {len : Byte} (whole : mid = soFar ++ c :: rest)
    (known : (head :: (mid ++ [check]))[2]? = some len) (fits : len.toNat ≤ 64) (length : mid.length = len.toNat + 2) :
    Makes addr false false t c (.taking p (head :: soFar)) (.taking p (head :: (soFar ++ [c]))) [] := by
  intro h _ takes
  refine (if_neg (by decide)).trans ?_
  rw [List.append_nil]
  by_cases few : (head :: soFar).length < 2
  · exact Hearing.takeNext_early takes few
  · rw [List.length_cons] at few
    have start : head :: (mid ++ [check]) = (head :: soFar ++ [c]) ++ (rest ++ [check]) := by
      rw [whole]
      simp
    have here : (head :: soFar ++ [c])[2]? = some len := by
      rw [start, List.getElem?_append_left (by simp; omega)] at known
      exact known
    have shorter : (head :: soFar ++ [c]).length ≠ len.toNat + 4 := by
      have := congrArg List.length whole
      simp only [List.length_append, List.length_cons, List.length_nil] at this ⊢
      omega
    exact (Hearing.takeNext_known takes here).trans ((if_neg (Nat.not_lt.2 fits)).trans (if_neg shorter))

/-- The check of a valid message completes it. -/
theorem makes_check {len : Byte} (known : (head :: (mid ++ [check]))[2]? = some len) (fits : len.toNat ≤ 64)
    (length : mid.length = len.toNat + 2) (sum : byteSum (head :: (mid ++ [check])) = 0) :
    Makes addr false false t check (.taking p (head :: mid)) .waiting [(t, .complete p (head :: (mid ++ [check])))] := by
  intro h _ takes
  refine (if_neg (by decide)).trans ?_
  have all : (head :: mid ++ [check]).length = len.toNat + 4 := by simp [length]
  refine (Hearing.takeNext_known takes known).trans <| (if_neg (Nat.not_lt.2 fits)).trans <| (if_pos all).trans ?_
  exact (congrArg _ (if_pos sum)).trans (Hearing.drop_taking _ _ takes)

end Taken

section Whole

variable {l : Line} {gap : Nat} {dest src : Addr} {kind : Byte} {body : List Byte}
  (looks : l.chars = .hunting) (waits : l.message = .waiting) (high : l.wireLow = false)
include looks waits high

/-- A valid message that the head test takes is complete at the middle of its check's stop bit. -/
theorem Line.hear_taken (p : Purpose) (fits : body.length ≤ 64)
    (test : ∀ r : Line, r.addr = l.addr → r.headTest (headOf dest src) = .taking p [headOf dest src]) :
    let t := l.readTo + gap + 11 * (body.length + 4) * l.bit - l.bit / 2
    l.hear false (messageWave l.bit gap (messageOf dest src kind body))
      = { line := l.between .waiting t (t - l.bit / 2), events := [(t, .complete p (messageOf dest src kind body))] } := by
  have length : (BitVec.ofNat 8 body.length).toNat = body.length := by
    rw [BitVec.toNat_ofNat]
    omega
  have known : (messageOf dest src kind body)[2]? = some (BitVec.ofNat 8 body.length) := rfl
  have heard := Line.hear_message (l := l) (doze := false) (mid := kind :: BitVec.ofNat 8 body.length :: body)
    (st := fun soFar => .taking p (headOf dest src :: soFar)) (head := headOf dest src) gap looks waits high
    (fun t => makes_head test)
    (fun soFar c rest split t => makes_inner split known (by omega) (by rw [length]; rfl))
    (makes_check known (by omega) (by rw [length]; rfl) (byteSum_messageOf dest src kind body))
  exact heard

/-- A message that the head test passes over leaves the receiver waiting. -/
theorem Line.hear_passed (test : ∀ r : Line, r.addr = l.addr → r.headTest (headOf dest src) = .waiting) :
    let t := l.readTo + gap + 11 * (body.length + 4) * l.bit - l.bit / 2
    l.hear false (messageWave l.bit gap (messageOf dest src kind body))
      = { line := l.between .waiting t (t - l.bit / 2), events := [] } :=
  Line.hear_message (l := l) (doze := false) (mid := kind :: BitVec.ofNat 8 body.length :: body)
    (st := fun _ => .waiting) (head := headOf dest src) gap looks waits high
    (fun _ => makes_head test) (fun _ _ _ _ _ => makes_passed) makes_passed

end Whole

theorem headSource_headOf (dest src : Addr) : headSource (headOf dest src) = src := by
  apply BitVec.eq_of_toNat_eq
  have := src.isLt
  have := dest.isLt
  simp only [headSource, headOf, BitVec.toNat_ofNat]
  omega

theorem headDest_headOf (dest src : Addr) : headDest (headOf dest src) = dest := by
  apply BitVec.eq_of_toNat_eq
  have := src.isLt
  have := dest.isLt
  simp only [headDest, headOf, BitVec.toNat_ofNat]
  omega

end Sys2Proof.Machine

/-! PROOFS. What the engine does while the part is listen-only, and entry to it (R142, R146, R169, R177). -/

namespace Sys2Proof.Machine

/-! ## The engine of a listen-only part -/

/-- The Line Interface and the Budget Unit stand, and no BUDGET is asked for that was not asked for before. -/
structure Quiet (s t : State) : Prop where
  line : t.line = s.line
  bud : t.bud = s.bud
  asked : s.eng.budgetAsked = false → t.eng.budgetAsked = false

theorem Quiet.refl (s : State) : Quiet s s := ⟨rfl, rfl, id⟩

theorem Quiet.trans {s t u : State} (h : Quiet s t) (g : Quiet t u) : Quiet s u :=
  ⟨g.line.trans h.line, g.bud.trans h.bud, fun none_ => g.asked (h.asked none_)⟩

theorem Quiet.listenOnly {s t : State} (h : Quiet s t) (quiet : s.line.listenOnly = true) : t.line.listenOnly = true := by
  rw [h.line, quiet]

theorem Quiet.setEng (s : State) {e : Engine} (asked : e.budgetAsked = s.eng.budgetAsked) : Quiet s (s.setEng e) :=
  ⟨rfl, rfl, fun none_ => asked.trans none_⟩

theorem Quiet.afterEng {s t : State} {e : Engine} (h : Quiet (s.setEng e) t) (asked : e.budgetAsked = s.eng.budgetAsked) :
    Quiet s t :=
  .trans (.setEng s asked) h

theorem Quiet.asks {s t : State} {n : Notice} (h : Quiet s t) (quiet : s.line.listenOnly = true) : Quiet s (t.askNotice n) := by
  rwa [State.askNotice_none (Or.inl (h.listenOnly quiet))]

theorem State.setEngineState_quiet (s : State) (st : EngineState) : Quiet s (s.setEngineState st) := by
  unfold State.setEngineState
  split
  · exact .refl s
  · exact .setEng s rfl

section Quiet

variable {s : State} (quiet : s.line.listenOnly = true)
include quiet

theorem State.keepHeld_quiet (h : HoldSet) : Quiet s (s.keepHeld h) := by
  unfold State.keepHeld
  split
  · exact .refl s
  · split
    · split
      · exact .setEng s rfl
      · exact .asks (.setEng s rfl) quiet
    · exact .asks (.setEng s rfl) quiet

theorem State.enterHeld_quiet (h : HoldSet) : Quiet s (s.enterHeld h) := by
  unfold State.enterHeld
  split
  · exact .refl s
  · exact .asks (.afterEng (State.setEngineState_quiet _ _) rfl) quiet

theorem State.applyHolds_quiet (h : HoldSet) : Quiet s (s.applyHolds h) := by
  unfold State.applyHolds
  split
  · exact State.keepHeld_quiet quiet h
  · exact State.enterHeld_quiet quiet _

omit quiet in
theorem Quiet.holds {s t : State} {x : HoldSet} (h : Quiet s t) (quiet : s.line.listenOnly = true) : Quiet s (t.applyHolds x) :=
  h.trans (State.applyHolds_quiet (h.listenOnly quiet) x)

theorem State.lowerAtStart_quiet : s.lowerAtStart = s := if_neg (by simp [quiet])

theorem State.budgetAndPack_quiet : Quiet s s.budgetAndPack := by
  unfold State.budgetAndPack
  rw [State.lowerAtStart_quiet quiet]
  dsimp only
  split
  · exact State.applyHolds_quiet quiet _
  · split
    · exact .setEng s rfl
    · exact State.applyHolds_quiet quiet _

theorem State.sampleStage_quiet (sense : Sense) : Quiet s (s.sampleStage sense) := by
  have run : Quiet s s.takeRun := by
    unfold State.takeRun
    split
    · exact ⟨rfl, rfl, id⟩
    · exact .refl s
  have read : Quiet s (s.takeRun.readSense sense) := run.trans ⟨rfl, rfl, id⟩
  have still := read.listenOnly quiet
  unfold State.sampleStage
  dsimp only
  split
  · exact read.holds quiet
  · exact read.trans (State.budgetAndPack_quiet still)

omit quiet in
theorem State.advanceRun_asked (s : State) : s.advanceRun.1.eng.budgetAsked = s.eng.budgetAsked := by
  unfold State.advanceRun
  (repeat' split) <;> simp

omit quiet in
theorem Quiet.goesOn {s t : State} (h : Quiet s t) (quiet : s.line.listenOnly = true) (sense : Sense) :
    Quiet s (t.goOn sense) := by
  unfold State.goOn
  split
  · exact h.trans (State.sampleStage_quiet (h.listenOnly quiet) sense)
  · exact h.trans (State.setEngineState_quiet _ _)

theorem State.endDotLine_quiet (d : DotLine) (sense : Sense) : Quiet s (s.endDotLine d sense) := by
  have done : Quiet s (s.completeDotLine d).1 := by
    refine ⟨by simp, by simp, fun none_ => ?_⟩
    unfold State.completeDotLine
    dsimp only
    split
    · split <;> exact none_
    · rw [State.advanceRun_asked]
      split <;> exact none_
  have ended (x : Engine) (asked : x.budgetAsked = false) : Quiet s ((s.completeDotLine d).1.setEng x) :=
    done.trans ⟨rfl, rfl, fun _ => asked⟩
  unfold State.endDotLine
  dsimp only
  split
  · exact .holds (ended _ rfl) quiet
  · exact .goesOn (ended _ rfl) quiet sense

theorem State.startItem_quiet (sense : Sense) : Quiet s (s.startItem sense) := by
  unfold State.startItem
  split
  · split
    · exact State.applyHolds_quiet quiet _
    · dsimp only
      split
      · exact .afterEng (State.endDotLine_quiet (by exact quiet) _ sense) rfl
      · exact .setEng s rfl
  · exact State.sampleStage_quiet quiet sense

theorem State.workTest_quiet (sense : Sense) : Quiet s (s.workTest sense) := by
  have printing := State.setEngineState_quiet s .printing
  unfold State.workTest
  split
  · exact State.setEngineState_quiet s _
  · exact printing.trans (State.startItem_quiet (printing.listenOnly quiet) sense)
  · exact State.setEngineState_quiet s _
  · exact State.applyHolds_quiet quiet _

theorem State.leaveHeld_quiet (sense : Sense) : Quiet s (s.leaveHeld sense) := by
  have free : Quiet s (s.setEng { s.eng with holds := {}, cause := none }) := .setEng s rfl
  have enters (st : EngineState) := free.trans (State.setEngineState_quiet _ st)
  unfold State.leaveHeld
  dsimp only
  split
  · exact (enters .idle).asks quiet
  · have printing := Quiet.asks (n := .printResumed s.eng.holdCount .printing) (enters .printing) quiet
    exact printing.trans (State.startItem_quiet (printing.listenOnly quiet) sense)
  · exact (enters .claiming).asks quiet
  · exact free.holds quiet

theorem State.engineListenOnly_quiet (sense : Sense) : (s.engineListenOnly sense).line = s.line
    ∧ (s.engineListenOnly sense).bud = s.bud ∧ (s.engineListenOnly sense).eng.budgetAsked = false := by
  let w := s.setEng { s.eng with budgetAsked := false }
  have goes {t : State} (h : Quiet w t) : t.line = s.line ∧ t.bud = s.bud ∧ t.eng.budgetAsked = false :=
    ⟨h.line, h.bud, h.asked rfl⟩
  have still : w.line.listenOnly = true := quiet
  unfold State.engineListenOnly
  dsimp only
  split
  · refine goes ?_
    unfold State.changeHolds
    split
    · exact State.applyHolds_quiet still _
    · split
      · exact State.leaveHeld_quiet still sense
      · exact .refl w
  · split
    · exact goes (State.workTest_quiet still sense)
    · exact goes (.refl w)

/-- At a step's end a listen-only part has nothing to raise and nothing to gather: the park timer alone. -/
theorem State.reviewed_quiet (before : State) : State.reviewed before s = State.parkReview before s := by
  have budget : State.budgetReview before s = s := by
    have passes : s.raiseTest = s := State.raiseTest_passes (Or.inl (s.raisePassedOver_iff.2 (by simp [quiet])))
    unfold State.budgetReview
    split
    · rfl
    · exact passes
  have parked : (State.parkReview before s).line.listenOnly = true := by simpa using quiet
  have none_ {t : State} (h : t.line.listenOnly = true) : t.gathers = false := by simp [State.gathers, h]
  unfold State.reviewed
  dsimp only
  rw [budget]
  have keys : State.keysGather before (State.parkReview before s) = State.parkReview before s :=
    if_neg (by rw [none_ parked]; decide)
  rw [keys]
  exact if_neg (by rw [none_ parked]; decide)

end Quiet

end Sys2Proof.Machine

/-! PROOFS. A message sent bit by bit is the command that its head and kind name; entry to listen-only (R175, R177, R184). -/

namespace Sys2Proof.Machine

/-! ## Entry to listen-only (R142, R146, R169, R177) -/

/-- The state `x` with its slots, gathers, key FIFO, budget figures and FWQ emptied at entry to listen-only. -/
def State.hushed (x : State) : State :=
  ((((x.setLine { x.line with
      listenOnly := true, claimSlot := none, replies := [], notices := [], keysSlot := none, textSlot := none
      presentSlot := none, attempt := none }).setMsg { x.msg with
      keysTimer := none, keysDue := false, textTimer := none, textDue := false, presentTimer := none
      window := if x.msg.window = .waitingPresent then .opened else x.msg.window
      windowTimer := if x.msg.window = .waitingPresent then some (x.now + 2000000) else x.msg.windowTimer }).setKbd { x.kbd with
      fifo := [], inMessage := 0, keyLost := false }).setBud { x.bud with
      own := 0, granted := 0, raise := .none, settleTimer := none, restateTimer := none, parkTimer := none
      barrierTimer := none }).changePool { x.pool with
      free := x.pool.fwq.reverse.map Block.id ++ x.pool.free, fwq := [], fwqLost := false, fwqInMessage := 0 }

theorem State.enterListenOnly_again {x : State} (sense : Sense) (was : x.line.listenOnly = true) :
    x.enterListenOnly sense = x := if_pos was

theorem State.enterListenOnly_eq {x : State} (sense : Sense) (first : x.line.listenOnly = false) :
    x.enterListenOnly sense = (x.hushed.engineListenOnly sense).arrival := by
  let quiet := (x.setLine x.line.silenced).setMsg { x.msg.stopGathers with presentTimer := none }
  have opened : quiet.openWindow = (x.setLine x.line.silenced).setMsg { x.msg.stopGathers with
      presentTimer := none, window := if x.msg.window = .waitingPresent then .opened else x.msg.window
      windowTimer := if x.msg.window = .waitingPresent then some (x.now + 2000000) else x.msg.windowTimer } := by
    by_cases waits : x.msg.window = .waitingPresent
    · rw [State.openWindow_opens (s := quiet) waits, if_pos waits, if_pos waits]
      rfl
    · rw [State.openWindow_stays (s := quiet) waits, if_neg waits, if_neg waits]
      rfl
  refine (if_neg (by simp [first])).trans ?_
  show ((((quiet.openWindow.setKbd quiet.openWindow.kbd.emptyFifo).setBud _).discardChain .fwq).engineListenOnly sense).arrival = _
  rw [opened]
  rfl

section Engine

variable {v : State} (sense : Sense)

theorem State.engineListenOnly_holds {h : HoldSet} (budget : v.eng.holds.budget = true)
    (rest : h = { v.eng.holds with budget := false }) :
    (h.any = true → v.engineListenOnly sense = (v.setEng { v.eng with budgetAsked := false }).applyHolds h)
      ∧ (h.any = false → v.engineListenOnly sense = (v.setEng { v.eng with budgetAsked := false }).leaveHeld sense) := by
  have changes : v.engineListenOnly sense = (v.setEng { v.eng with budgetAsked := false }).changeHolds h sense := by
    rw [rest]
    exact if_pos budget
  have was : v.eng.holds.any = true := by simp [HoldSet.any, budget]
  exact ⟨fun some_ => changes.trans (State.changeHolds_some sense some_),
    fun none_ => changes.trans (State.changeHolds_ends sense none_ was)⟩

theorem State.engineListenOnly_free (budget : v.eng.holds.budget = false) :
    (v.eng.st = .claiming → v.engineListenOnly sense = (v.setEng { v.eng with budgetAsked := false }).workTest sense)
      ∧ (v.eng.st ≠ .claiming → v.engineListenOnly sense = v.setEng { v.eng with budgetAsked := false }) :=
  ⟨fun claims => (if_neg (by simp [budget])).trans (if_pos claims),
    fun other => (if_neg (by simp [budget])).trans (if_neg other)⟩

end Engine

theorem State.changePool_pool (s : State) (p : Pool) : (s.changePool p).pool = p := by
  unfold State.changePool
  dsimp only
  split
  · rfl
  · obtain ⟨-, -, pool, -⟩ := (s.setPool p).evaluateFlow_frame
    exact pool

theorem State.takeCell_fwq {s s' : State} {cell : Cell} (taken : s.takeCell .txq = some (cell, s')) :
    s'.pool.fwq = s.pool.fwq := by
  obtain ⟨⟨_, p⟩, took, same⟩ := Option.map_eq_some_iff.1 taken
  cases same
  rw [State.changePool_pool]
  obtain ⟨_, _, _, _, ⟨_, rfl⟩ | ⟨_, rfl⟩⟩ := Pool.take_cases took <;> rfl

theorem State.chooseNext_fwq (s : State) (fresh : Bool) : (s.chooseNext fresh).pool.fwq = s.pool.fwq := by
  unfold State.chooseNext
  split
  · rfl
  · split
    · split
      · rfl
      · split
        · rfl
        · split
          case h_1 cell next taken => exact (State.takeCell_fwq (s' := next) taken :)
          case h_2 => rfl
    · rfl

theorem State.arrival_fwq (s : State) : s.arrival.pool.fwq = s.pool.fwq := by
  unfold State.arrival
  split
  · exact State.chooseNext_fwq s true
  · rfl

theorem State.parkReview_bud (before s : State) : (State.parkReview before s).bud.own = s.bud.own
    ∧ (State.parkReview before s).bud.granted = s.bud.granted := by
  unfold State.parkReview
  (repeat' split) <;> exact ⟨rfl, rfl⟩

/-! ## A message on the wire (R175) -/

section Wire

variable {s : State} {sense : Sense} {gap : Nat} {dest src : Addr} {kind : Byte} {body : List Byte}

/-- The middle of the check's stop bit. -/
def State.messageEnds (s : State) (gap : Nat) (body : List Byte) : Nat :=
  s.line.readTo + gap + 11 * (body.length + 4) * s.line.bit - s.line.bit / 2

/-- A message of another station for the part, or for all, or one from its own address. -/
def State.byKind (s : State) (dest src : Addr) (kind : Byte) (body : List Byte) (sense : Sense) : State :=
  if dest = 0 then s.broadcastByKind src kind body sense else s.addressedByKind src kind body sense

theorem State.byHead_messageOf (u : State) :
    u.byHead (messageOf dest src kind body) sense = u.byKind dest src kind body sense := by
  have head : charAt (messageOf dest src kind body) 0 = headOf dest src := rfl
  have named : charAt (messageOf dest src kind body) 1 = kind := rfl
  have inner : ((messageOf dest src kind body).drop 3).take ((messageOf dest src kind body).length - 4) = body := by
    have length : (messageOf dest src kind body).length - 4 = body.length := by simp [messageOf]
    rw [length]
    exact List.take_left
  unfold State.byHead State.byKind
  rw [head, named, inner, headSource_headOf, headDest_headOf]

theorem Line.headTest_taken {l : Line} (r : Line) (same : r.addr = l.addr) (mine : src = l.addr ∨ dest = l.addr ∨ dest = 0) :
    r.headTest (headOf dest src)
      = .taking (if src = l.addr then .conflict else .delivery) [headOf dest src] := by
  rw [Line.headTest_eq, headSource_headOf, headDest_headOf, same]
  by_cases own : src = l.addr
  · rw [if_pos own, if_pos own]
  · rw [if_neg own, if_neg own, if_pos (mine.resolve_left own)]

theorem Line.headTest_passed {l : Line} (r : Line) (same : r.addr = l.addr) (other : src ≠ l.addr) (named : dest ≠ 0)
    (away : dest ≠ l.addr) : r.headTest (headOf dest src) = .waiting := by
  rw [Line.headTest_eq, headSource_headOf, headDest_headOf, same, if_neg other, if_neg (fun h => h.elim away named)]

variable (fits : body.length ≤ 64) (attempt : s.line.attempt = none) (awake : s.msg.op ≠ .doze)
  (looks : s.line.chars = .hunting) (waits : s.line.message = .waiting) (high : s.line.wireLow = false)
  (due : s.now ≤ s.messageEnds gap body)

include due in
/-- The line that has heard a message is the line after a message named by its kind. -/
theorem State.heard_between : (s.advanceTo (s.messageEnds gap body)).setLine
      (s.line.between .waiting (s.messageEnds gap body) (s.messageEnds gap body - s.line.bit / 2))
    = s.heard (s.messageEnds gap body) := by
  have line : (s.advanceTo (s.messageEnds gap body)).line = s.line := by simp
  have now : (s.advanceTo (s.messageEnds gap body)).now = s.messageEnds gap body := by
    rw [State.advanceTo_now, Nat.max_eq_right due]
  rw [State.heard_eq, now, line]
  rfl

include awake in
theorem State.hear_awake (wave : Wave) : s.hear wave = s.line.hear false wave := by
  rw [State.hear, decide_eq_false awake]

include fits attempt awake looks waits high due

/-- A message that the head test takes is acted upon by its kind, or makes the part listen-only. -/
theorem State.messageReceived_taken (mine : src = s.line.addr ∨ dest = s.line.addr ∨ dest = 0) :
    exec (.messageReceived (messageWave s.line.bit gap (messageOf dest src kind body)) sense) s
      = .next (State.reviewed s (if src = s.line.addr then (s.heard (s.messageEnds gap body)).enterListenOnly sense
          else (s.heard (s.messageEnds gap body)).byKind dest src kind body sense)) := by
  let purpose : Purpose := if src = s.line.addr then .conflict else .delivery
  have heard := Line.hear_taken (gap := gap) (kind := kind) looks waits high purpose fits fun r same =>
    Line.headTest_taken (dest := dest) (src := src) r same mine
  rw [← State.hear_awake awake] at heard
  have event : s.heardEvent (messageWave s.line.bit gap (messageOf dest src kind body))
      = some (.complete purpose (messageOf dest src kind body)) :=
    (s.heardEvent_iff _ _).2 ⟨attempt, by rw [heard]; rfl⟩
  have after : s.afterWave (messageWave s.line.bit gap (messageOf dest src kind body)) = s.heard (s.messageEnds gap body) := by
    rw [← State.heard_between due, State.afterWave, heard]
    rfl
  have op : (s.heard (s.messageEnds gap body)).msg.op ≠ .doze := by simpa using awake
  show execMessageReceived _ sense s = _
  rw [execMessageReceived, event]
  refine congrArg Host.Outcome.next ?_
  rw [after]
  refine (if_neg (fun h => op h.1)).trans (congrArg (State.reviewed s) ?_)
  rw [if_neg op]
  have conflict : decide (purpose = .conflict) = decide (src = s.line.addr) := by
    by_cases own : src = s.line.addr <;> simp [purpose, own]
  rw [conflict]
  dsimp only
  rw [State.byHead_messageOf]
  by_cases own : src = s.line.addr <;> simp [own]

omit fits attempt in
/-- A message for another station is passed over. -/
theorem State.messageReceived_passed (other : src ≠ s.line.addr) (named : dest ≠ 0) (away : dest ≠ s.line.addr) :
    exec (.messageReceived (messageWave s.line.bit gap (messageOf dest src kind body)) sense) s = .next s
      ∧ (s.hear (messageWave s.line.bit gap (messageOf dest src kind body))).events = []
      ∧ (s.hear (messageWave s.line.bit gap (messageOf dest src kind body))).line = (s.heard (s.messageEnds gap body)).line := by
  have heard := Line.hear_passed (gap := gap) (kind := kind) (body := body) looks waits high fun r same =>
    Line.headTest_passed (dest := dest) (src := src) r same other named away
  rw [← State.hear_awake awake] at heard
  refine ⟨?_, by rw [heard], ?_⟩
  · show execMessageReceived _ sense s = _
    unfold execMessageReceived
    split
    case h_1 event =>
      obtain ⟨-, found⟩ := (s.heardEvent_iff _ _).1 event
      rw [heard] at found
      cases found
    case h_2 => rfl
  · rw [← State.heard_between due, heard]
    rfl

omit fits looks waits high due in
/-- A message of another station named by its kind is acted upon, or makes the part listen-only. -/
theorem State.delivered_awake (m : Moment) (act : State → State) :
    s.delivered m dest src act = State.reviewed s (if src = s.line.addr then (s.heard m.t).enterListenOnly m.sense
      else act (s.heard m.t)) := by
  have op : (s.heard m.t).msg.op ≠ .doze := by simpa using awake
  refine (if_neg (by simp [attempt])).trans ?_
  refine (if_neg (fun h => op h.1)).trans (congrArg (State.reviewed s) ?_)
  rw [if_neg op]
  by_cases own : src = s.line.addr <;> simp [own]

end Wire

end Sys2Proof.Machine

/-! PROOFS. The kinds of message that are acted upon and those that are ignored (R184), and reception whole. -/

namespace Sys2Proof.Machine

/-! ## Kinds (R184) -/

theorem kindKnown_iff (kind : Byte) : kindKnown kind = true
    ↔ 1 ≤ kind.toNat ∧ kind.toNat ≤ 3 ∨ 16 ≤ kind.toNat ∧ kind.toNat ≤ 25 ∨ 32 ≤ kind.toNat ∧ kind.toNat ≤ 36 := by
  simp [kindKnown, or_assoc]

section Kinds

variable {u : State} {src : Addr} {kind : Byte} {body : List Byte} {sense : Sense}

theorem State.addressedByKind_unknown (unknown : kindKnown kind = false) :
    u.addressedByKind src kind body sense = u.refuseUnknown src kind := by
  have range := (kindKnown_iff kind).not.1 (by simp [unknown])
  unfold State.addressedByKind
  split
  case h_11 => exact if_neg (by simp; omega)
  all_goals omega

theorem State.addressedByKind_ignored
    (kinds : kind ∈ [(0x01 : Byte), 0x02, 0x03, 0x20, 0x21, 0x22, 0x23, 0x24]) :
    u.addressedByKind src kind body sense = u := by
  simp only [List.mem_cons, List.not_mem_nil, or_false] at kinds
  rcases kinds with rfl | rfl | rfl | rfl | rfl | rfl | rfl | rfl <;> rfl

theorem State.broadcastByKind_ignored (kinds : kind ∉ [(0x01 : Byte), 0x02, 0x03, 0x18]) :
    u.broadcastByKind src kind body sense = u := by
  simp only [List.mem_cons, List.not_mem_nil, or_false, not_or] at kinds
  obtain ⟨present, allowance, claim, restart⟩ := kinds
  exact (if_neg allowance).trans <| (if_neg claim).trans <| (if_neg present).trans (if_neg restart)

theorem State.restartMessage_ignored (some_ : body ≠ []) : u.restartMessage body sense = u := if_neg (by simpa using some_)

theorem State.allowanceHeard_ignored (length : body.length ≠ 3) : u.allowanceHeard src body = u := by
  have none_ : allowanceOf body = none := by
    unfold allowanceOf
    split
    · exact absurd rfl length
    · rfl
  rw [State.allowanceHeard, none_]

theorem State.claimHeard_ignored (length : body.length ≠ 2) : u.claimHeard src body = u := by
  have none_ : claimOf body = none := by
    unfold claimOf
    split
    · exact absurd rfl length
    · rfl
  rw [State.claimHeard, none_]

theorem State.presentHeard_ignored (length : body.length ≠ 2) : u.presentHeard src body = u := if_neg length

end Kinds

/-- Settles O54: the wave of a message is read character by character (`Line.hear_taken`), and what it then does is what the
command of its kind does (`State.delivered_awake`), or entry to listen-only. -/
theorem messageDelivered : Obligations.MessageDelivered := by
  unfold Obligations.MessageDelivered
  intro s sense gap src body fits own attempt awake looks waits high bit wave ends due whole same m
  have taken (dest : Addr) (kind : Byte) (b : List Byte) (short : b.length ≤ 64) (later : s.now ≤ s.messageEnds gap b)
      (mine : src = s.line.addr ∨ dest = s.line.addr ∨ dest = 0) :
      whole dest kind b = .next (State.reviewed s (if src = s.line.addr then (s.heard (s.messageEnds gap b)).enterListenOnly sense
        else (s.heard (s.messageEnds gap b)).byKind dest src kind b sense)) :=
    State.messageReceived_taken short attempt awake looks waits high later mine
  have named (dest : Addr) (act : State → State) (b : List Byte) :
      s.delivered { t := s.messageEnds gap b, sense := sense } dest src act = State.reviewed s
        (if src = s.line.addr then (s.heard (s.messageEnds gap b)).enterListenOnly sense
          else act (s.heard (s.messageEnds gap b))) :=
    State.delivered_awake attempt awake _ act
  have is (dest dest' : Addr) (kind : Byte) (b : List Byte) (short : b.length ≤ 64) (later : s.now ≤ s.messageEnds gap b)
      (mine : dest = s.line.addr ∨ dest = 0) (c : Instr) (act : State → State)
      (command : exec c s = .next (s.delivered { t := s.messageEnds gap b, sense := sense } dest' src act))
      (acts : ∀ u : State, u.byKind dest src kind b sense = act u) : same (whole dest kind b) c := by
    refine ⟨_, taken dest kind b short later (Or.inr mine), command.trans (congrArg _ ((named dest' act b).trans ?_))⟩
    rw [acts]
  have toAll (kind : Byte) (c : Instr) (act : State → State)
      (command : exec c s = .next (s.delivered m 0 src act))
      (acts : ∀ u : State, u.broadcastByKind src kind body sense = act u) : same (whole 0 kind body) c :=
    is 0 0 kind body fits due (Or.inr rfl) c act command fun u => (if_pos rfl).trans (acts u)
  have toPart (kind : Byte) (c : Instr) (act : State → State)
      (command : exec c s = .next (s.delivered m s.line.addr src act))
      (acts : ∀ u : State, u.addressedByKind src kind body sense = act u) : same (whole s.line.addr kind body) c :=
    is s.line.addr s.line.addr kind body fits due (Or.inl rfl) c act command fun u => (if_neg own).trans (acts u)
  refine ⟨toAll _ _ _ rfl fun _ => rfl, toAll _ _ _ rfl fun _ => rfl, toAll _ _ _ rfl fun _ => rfl,
    toAll _ _ _ rfl fun _ => rfl, toPart _ _ _ rfl fun _ => rfl, toPart _ _ _ rfl fun _ => rfl, toPart _ _ _ rfl fun _ => rfl,
    toPart _ _ _ rfl fun _ => rfl, toPart _ _ _ rfl fun _ => rfl, toPart _ _ _ rfl fun _ => rfl, toPart _ _ _ rfl fun _ => rfl,
    toPart _ _ _ rfl fun _ => rfl, fun kind unknown => ?_, fun short => ?_, fun dest kind other toOther away => ?_,
    fun kind other => ?_, fun dest kind mine heard => ?_, fun dest kind mine => ?_⟩
  case refine_1 =>
    refine toPart kind _ (fun u => u.refuseUnknown src kind) ?_ fun u => State.addressedByKind_unknown unknown
    exact if_neg (by simp [unknown])
  case refine_2 =>
    have later (b : Byte) : s.now ≤ s.messageEnds gap (b :: body) := due.trans <| Nat.sub_le_sub_right
      (Nat.add_le_add_left (Nat.mul_le_mul_right _ (by simp)) _) _
    have request (kind action : Byte) (c : Instr) (act : State → State)
        (command : exec c s = .next (s.delivered { t := s.messageEnds gap (action :: body), sense := sense } s.line.addr src act))
        (acts : ∀ u : State, u.addressedByKind src kind (action :: body) sense = act u) :
        same (whole s.line.addr kind (action :: body)) c :=
      is s.line.addr s.line.addr kind (action :: body) (Nat.succ_le_succ short) (later action) (Or.inl rfl) c act command
        fun u => (if_neg own).trans (acts u)
    exact ⟨request _ _ _ _ rfl fun _ => rfl, request _ _ _ _ rfl fun _ => rfl, request _ _ _ _ rfl fun _ => rfl,
      request _ _ _ _ rfl fun _ => rfl⟩
  case refine_3 => exact State.messageReceived_passed awake looks waits high due other toOther away
  case refine_4 =>
    intro ignored
    have toAllIgnored (acts : ∀ u : State, u.broadcastByKind src kind body sense = u) : ignored 0 := by
      refine (taken 0 kind body fits due (Or.inr (Or.inr rfl))).trans (reviewed_congr s ?_)
      exact (if_neg other).trans ((if_pos rfl).trans (acts _))
    have toPartIgnored (acts : ∀ u : State, u.addressedByKind src kind body sense = u) : ignored s.line.addr := by
      refine (taken s.line.addr kind body fits due (Or.inr (Or.inl rfl))).trans (reviewed_congr s ?_)
      exact (if_neg other).trans ((if_neg own).trans (acts _))
    refine ⟨fun kinds => toAllIgnored fun u => State.broadcastByKind_ignored kinds,
      fun kinds => toPartIgnored fun u => State.addressedByKind_ignored kinds, ?_, ?_⟩
    · rintro rfl some_
      exact ⟨toAllIgnored fun u => State.restartMessage_ignored some_, toPartIgnored fun u => State.restartMessage_ignored some_⟩
    · rintro (⟨rfl, length⟩ | ⟨kinds, length⟩)
      · exact toAllIgnored fun u => State.allowanceHeard_ignored length
      · simp only [List.mem_cons, List.not_mem_nil, or_false] at kinds
        obtain rfl | rfl := kinds
        · exact toAllIgnored fun u => State.presentHeard_ignored length
        · exact toAllIgnored fun u => State.claimHeard_ignored length
  case refine_5 =>
    let u := s.heard (s.messageEnds gap body)
    have first : u.line.listenOnly = false := by simpa [u] using heard
    have entered := (taken dest kind body fits due (Or.inl mine)).trans (reviewed_congr s
      ((if_pos mine).trans (State.enterListenOnly_eq sense first)))
    have hushed : u.hushed.line.listenOnly = true := by simp [State.hushed]
    obtain ⟨line, bud, asked⟩ := State.engineListenOnly_quiet hushed sense
    let x := (u.hushed.engineListenOnly sense).arrival
    have xLine : x.line = u.hushed.line := by simpa [x] using line
    have xBud : x.bud = u.hushed.bud := by simpa [x] using bud
    have xEng : x.eng.budgetAsked = false := by simpa [x] using asked
    have xKbd : x.kbd = u.hushed.kbd := by simp [x]
    have xFwq : x.pool.fwq = [] := by
      rw [State.arrival_fwq, show (u.hushed.engineListenOnly sense).pool = u.hushed.pool by simp]
      exact congrArg Pool.fwq (State.changePool_pool _ _)
    have xQuiet : x.line.listenOnly = true := by rw [xLine, hushed]
    refine ⟨State.parkReview s x, entered.trans (congrArg _ (State.reviewed_quiet xQuiet s)), ?_⟩
    obtain ⟨own_, granted⟩ := State.parkReview_bud s x
    rw [own_, granted, xBud]
    simp [xLine, xKbd, xFwq, xEng, State.hushed]
  case refine_6 =>
    intro u opens silenced v w h after
    have entered := taken dest kind body fits due (Or.inl mine)
    rw [if_pos mine] at entered
    have hushed : u.hushed = v := by
      have msg : u.msg = s.msg := by simp [u]
      have kbd : u.kbd = s.kbd := by simp [u]
      have bud : u.bud = s.bud := by simp [u]
      have pool : u.pool = s.pool := by simp [u]
      unfold State.hushed
      rw [msg, kbd, bud, pool]
    have eng : v.eng = s.eng := by simp [v, silenced, u]
    have listen : u.line.listenOnly = s.line.listenOnly := by simp [u]
    refine ⟨fun again => entered.trans (reviewed_congr s (State.enterListenOnly_again sense (listen.trans again))),
      fun first => ?_⟩
    have enters := entered.trans (reviewed_congr s ((State.enterListenOnly_eq sense (listen.trans first)).trans
      (congrArg (fun x => (State.engineListenOnly x sense).arrival) hushed)))
    have wEq : v.setEng { v.eng with budgetAsked := false } = w := by rw [eng]
    have goes {x : State} (engine : v.engineListenOnly sense = x) : after x := by
      rw [engine] at enters
      exact enters
    refine ⟨fun budget some_ => ?_, fun budget none_ => ?_, fun budget claims => ?_, fun budget other => ?_⟩
    · rw [← wEq]
      exact goes ((State.engineListenOnly_holds sense (by rw [eng, budget]) (by rw [eng])).1 some_)
    · rw [← wEq]
      exact goes ((State.engineListenOnly_holds (h := h) sense (by rw [eng, budget]) (by rw [eng])).2 none_)
    · rw [← wEq]
      exact goes ((State.engineListenOnly_free sense (by rw [eng, budget])).1 (by rw [eng, claims]))
    · rw [← wEq]
      exact goes ((State.engineListenOnly_free sense (by rw [eng, budget])).2 (by rw [eng]; exact other))

end Sys2Proof.Machine

/-! PROOFS. The characters of STATUS (R17, R137, R171, R188, R195). -/

namespace Sys2Proof.Machine

/-! ## Fields of a character -/

theorem getLsbD_of_small {c : Byte} {n k : Nat} (small : c.toNat < 2 ^ n) (high : n ≤ k) : c.getLsbD k = false :=
  Nat.testBit_lt_two_pow (lt_of_lt_of_le small (Nat.pow_le_pow_right (by decide) high))

/-- A field of a character, read bit by bit. -/
theorem field_eq {x c : Byte} {i n : Nat} (small : c.toNat < 2 ^ n) (bits : ∀ k < n, x.getLsbD (i + k) = c.getLsbD k) :
    x.toNat / 2 ^ i % 2 ^ n = c.toNat := by
  refine Nat.eq_of_testBit_eq fun k => ?_
  rw [Nat.testBit_mod_two_pow, Nat.testBit_div_two_pow]
  by_cases within : k < n
  · have bit : x.toNat.testBit (i + k) = c.toNat.testBit k := bits k within
    simp [within, Nat.add_comm k i, bit]
  · have none_ : c.toNat.testBit k = false := getLsbD_of_small small (Nat.not_lt.1 within)
    simp [within, none_]

/-- A field placed above another. -/
theorem toNat_or_shiftLeft {a b : Byte} {n : Nat} (low : a.toNat < 2 ^ n) (fits : b.toNat * 2 ^ n < 256) :
    (a ||| (b <<< n)).toNat = a.toNat + 2 ^ n * b.toNat := by
  rw [BitVec.toNat_or, BitVec.toNat_shiftLeft, Nat.shiftLeft_eq, Nat.mod_eq_of_lt fits, Nat.mul_comm b.toNat,
    Nat.lor_comm, ← Nat.two_pow_add_eq_or_of_lt low, Nat.add_comm]

theorem flagBit_eq_shiftLeft (b : Bool) (n : Nat) : flagBit b n = flagBit b 0 <<< n := by
  cases b with
  | false => exact (BitVec.zero_shiftLeft n).symm
  | true => rfl

/-- Eight flags, bit by bit. -/
theorem getLsbD_flags (a b c d e f g h : Bool) {k : Nat} {x : Bool} (at_ : [a, b, c, d, e, f, g, h][k]? = some x) :
    (flagBit a 0 ||| flagBit b 1 ||| flagBit c 2 ||| flagBit d 3 ||| flagBit e 4 ||| flagBit f 5 ||| flagBit g 6
      ||| flagBit h 7).getLsbD k = x := by
  obtain ⟨within, here⟩ := List.getElem?_eq_some_iff.1 at_
  rw [← here]
  simp only [List.length_cons, List.length_nil] at within
  interval_cases k <;> simp [-BitVec.getLsbD_eq_getElem, getLsbD_flagBit]

/-- The bits left open do not reach the low half of a character. -/
theorem or_spare_mod (x : Byte) (kind index : Nat) : (x ||| spare kind index 0xF0).toNat % 16 = x.toNat % 16 := by
  have open_ : (spare kind index 0xF0).toNat % 2 ^ 4 = 0 := by
    rw [spare, BitVec.toNat_and, Nat.and_mod_two_pow]
    exact Nat.and_zero _
  rw [BitVec.toNat_or, show 16 = 2 ^ 4 from rfl, Nat.or_mod_two_pow, open_, Nat.or_zero]

/-! ## The characters with several fields -/

def State.statusRouting (s : State) : Byte :=
  s.router.routing.duplex.code ||| (s.router.routing.target.code <<< 1) ||| (s.router.routing.copy.code <<< 3)
     ||| flagBit s.router.routing.echo 5 ||| (s.router.flow.code <<< 6)

theorem State.statusRouting_toNat (s : State) : s.statusRouting.toNat
    = s.router.routing.duplex.code.toNat + 2 * s.router.routing.target.code.toNat + 8 * s.router.routing.copy.code.toNat
      + 32 * s.router.routing.echo.toNat + 64 * s.router.flow.code.toNat := by
  have duplex : s.router.routing.duplex.code.toNat ≤ 1 := by cases s.router.routing.duplex <;> decide
  have target : s.router.routing.target.code.toNat ≤ 2 := by cases s.router.routing.target <;> decide
  have copy : s.router.routing.copy.code.toNat ≤ 2 := by cases s.router.routing.copy <;> decide
  have flow : s.router.flow.code.toNat ≤ 3 := by cases s.router.flow <;> decide
  have echo : (flagBit s.router.routing.echo 0).toNat = s.router.routing.echo.toNat := by
    cases s.router.routing.echo <;> rfl
  have echoes := s.router.routing.echo.toNat_le
  have two := toNat_or_shiftLeft (a := s.router.routing.duplex.code) (b := s.router.routing.target.code) (n := 1)
    (by omega) (by omega)
  have three := toNat_or_shiftLeft (b := s.router.routing.copy.code) (n := 3) (by rw [two]; omega) (by omega)
  have four := toNat_or_shiftLeft (b := flagBit s.router.routing.echo 0) (n := 5) (by rw [three, two]; omega)
    (by rw [echo]; omega)
  have five := toNat_or_shiftLeft (b := s.router.flow.code) (n := 6) (by rw [four, three, two, echo]; omega) (by omega)
  rw [State.statusRouting, flagBit_eq_shiftLeft, five, four, three, two, echo]
  omega

def State.statusImages (s : State) : Byte := s.asm.image1.st.code ||| (s.asm.image2.st.code <<< 2) ||| spare 0x24 13 0xF0

theorem ImageState.code_le (st : ImageState) : st.code.toNat ≤ 3 := by cases st <;> decide

theorem State.statusImages_mod (s : State) :
    s.statusImages.toNat % 16 = s.asm.image1.st.code.toNat + 4 * s.asm.image2.st.code.toNat := by
  have one := s.asm.image1.st.code_le
  have two := s.asm.image2.st.code_le
  rw [State.statusImages, or_spare_mod, toNat_or_shiftLeft (by omega) (by omega)]
  omega

def State.statusEngine (s : State) : Byte := s.eng.st.code ||| (s.eng.step.code <<< 2) ||| spare 0x24 15 0xF0

theorem State.statusEngine_mod (s : State) :
    s.statusEngine.toNat % 16 = s.eng.st.code.toNat + 4 * s.eng.step.code.toNat := by
  have st : s.eng.st.code.toNat ≤ 3 := by cases s.eng.st <;> decide
  have step : s.eng.step.code.toNat ≤ 2 := by cases s.eng.step <;> simp [Step.code]
  rw [State.statusEngine, or_spare_mod, toNat_or_shiftLeft (by omega) (by omega)]
  omega

def State.statusBudget (s : State) : Byte :=
  s.bud.battery.code ||| flagBit s.bud.recordFresh 2 ||| (s.bud.raise.code <<< 4) ||| spare 0x24 27 0xC8

theorem State.statusBudget_fields (s : State) : s.statusBudget.toNat % 4 = s.bud.battery.code.toNat
    ∧ s.statusBudget.getLsbD 2 = s.bud.recordFresh ∧ s.statusBudget.toNat / 16 % 4 = s.bud.raise.code.toNat := by
  have battery : s.bud.battery.code.toNat < 2 ^ 2 := by cases s.bud.battery <;> decide
  have raise : s.bud.raise.code.toNat < 2 ^ 2 := by cases s.bud.raise <;> simp [Raise.code]
  have above (k : Nat) (high : 2 ≤ k) : s.bud.battery.code.getLsbD k = false := getLsbD_of_small battery high
  refine ⟨?_, ?_, ?_⟩
  · rw [← Nat.div_one s.statusBudget.toNat]
    refine field_eq (i := 0) (n := 2) battery fun k within => ?_
    interval_cases k <;>
      simp [-BitVec.getLsbD_eq_getElem, State.statusBudget, getLsbD_flagBit, getLsbD_spare]
  · simp [-BitVec.getLsbD_eq_getElem, State.statusBudget, getLsbD_flagBit, getLsbD_spare, above]
  · refine field_eq (i := 4) (n := 2) raise fun k within => ?_
    interval_cases k <;>
      simp [-BitVec.getLsbD_eq_getElem, State.statusBudget, getLsbD_flagBit, getLsbD_spare, above]

/-! ## The characters of the call -/

theorem rateOf_code (r : Rate) : rateOf r.code = some r := by cases r <;> rfl

theorem dataOf_code (d : DataFormat) : dataOf d.code = some d := by cases d <;> rfl

theorem stopOf_code (n : StopBits) : stopOf n.code = some n := by cases n <;> rfl

/-- The flags of the call, whatever the parameters add in bits 1 and 5. -/
def Call.statusFlags (c : Call) (more : Byte) : Byte :=
  flagBit c.breakInProgress 0 ||| (dropCode c.dropCause <<< 2) ||| spare 0x24 9 0xC0 ||| more

theorem dropCode_small (c : Option DropCause) : (dropCode c).toNat < 2 ^ 3 := by
  cases c with
  | none => decide
  | some c => cases c <;> decide

theorem Call.statusFlags_fields (c : Call) {more : Byte} (elsewhere : ∀ k, k ≠ 1 → k ≠ 5 → more.getLsbD k = false) :
    (c.statusFlags more).getLsbD 0 = c.breakInProgress
      ∧ (c.statusFlags more).toNat / 4 % 8 = (dropCode c.dropCause).toNat
      ∧ (c.statusFlags more).getLsbD 5 = more.getLsbD 5 ∧ (c.statusFlags more).getLsbD 1 = more.getLsbD 1 := by
  have above (k : Nat) (high : 3 ≤ k) := getLsbD_of_small (dropCode_small c.dropCause) high
  refine ⟨?_, ?_, ?_, ?_⟩
  · simp [-BitVec.getLsbD_eq_getElem, Call.statusFlags, getLsbD_flagBit, getLsbD_spare, elsewhere]
  · refine field_eq (i := 2) (n := 3) (dropCode_small c.dropCause) fun k within => ?_
    interval_cases k <;>
      simp [-BitVec.getLsbD_eq_getElem, Call.statusFlags, getLsbD_flagBit, getLsbD_spare, elsewhere]
  · simp [-BitVec.getLsbD_eq_getElem, Call.statusFlags, getLsbD_flagBit, getLsbD_spare, above]
  · simp [-BitVec.getLsbD_eq_getElem, Call.statusFlags, getLsbD_flagBit, getLsbD_spare]

/-- Characters 9 to 12 of STATUS. -/
theorem Call.statusChars_eq (c : Call) : ∃ c9 c10 c11 c12, c.statusChars = [c9, c10, c11, c12]
    ∧ c9.getLsbD 0 = c.breakInProgress ∧ c9.toNat / 4 % 8 = (dropCode c.dropCause).toNat
    ∧ c9.getLsbD 5 = c.params.isSome
    ∧ ∀ p, c.params = some p → c9.getLsbD 1 = decide (p.mode = .answer)
        ∧ rateOf c10 = some p.fmt.rate ∧ dataOf c11 = some p.fmt.data ∧ stopOf c12 = some p.fmt.stop := by
  unfold Call.statusChars
  cases params : c.params with
  | none =>
    have elsewhere (k : Nat) (one : k ≠ 1) : (Config.absentParams 9 &&& 0x02).getLsbD k = false := by
      have mask : (0x02 : Byte) = BitVec.twoPow 8 1 := rfl
      rw [BitVec.getLsbD_and, mask, BitVec.getLsbD_twoPow]
      simp [one.symm]
    obtain ⟨breaks, cause, inCall, -⟩ := c.statusFlags_fields (more := Config.absentParams 9 &&& 0x02) fun k one _ => elsewhere k one
    exact ⟨_, _, _, _, rfl, breaks, cause, inCall.trans (elsewhere 5 (by decide)), nofun⟩
  | some p =>
    have mode (k : Nat) : (p.mode.code <<< 1 ||| flagBit true 5).getLsbD k
        = (decide (k = 1) && decide (p.mode = .answer) || decide (k = 5)) := by
      have low : (p.mode.code <<< 1) = flagBit (decide (p.mode = .answer)) 1 := by cases p.mode <;> rfl
      rw [low, BitVec.getLsbD_or, getLsbD_flagBit _ (by decide), getLsbD_flagBit _ (by decide), Bool.and_comm, Bool.true_and]
    obtain ⟨breaks, cause, inCall, answers⟩ := c.statusFlags_fields (more := p.mode.code <<< 1 ||| flagBit true 5)
      fun k one five => by simp [mode, one, five]
    have split : flagBit c.breakInProgress 0 ||| (dropCode c.dropCause <<< 2) ||| spare 0x24 9 0xC0 ||| (p.mode.code <<< 1)
        ||| flagBit true 5 = c.statusFlags (p.mode.code <<< 1 ||| flagBit true 5) := by
      rw [Call.statusFlags, BitVec.or_assoc _ (p.mode.code <<< 1)]
    refine ⟨c.statusFlags (p.mode.code <<< 1 ||| flagBit true 5), _, _, _, by rw [← split], breaks, cause, ?_, ?_⟩
    · rw [inCall, mode]
      rfl
    · rintro _ ⟨⟩
      exact ⟨by rw [answers, mode]; simp, rateOf_code _, dataOf_code _, stopOf_code _⟩

/-- A STATUS body, character by character. -/
theorem State.statusBody_eq {s : State} {c9 c10 c11 c12 : Byte} (chars : s.call.statusChars = [c9, c10, c11, c12]) :
    s.statusBody =
      [s.msg.op.code,
       flagBit s.line.listenOnly 0 ||| flagBit s.router.localMode 1 ||| flagBit s.kbd.caps 2
         ||| flagBit s.router.remoteStopped 3 ||| flagBit s.pool.prqLost 4 ||| flagBit s.pool.fwqLost 5
         ||| flagBit s.call.seated 6 ||| flagBit s.call.muted 7,
       BitVec.ofNat 8 s.pool.free.length, BitVec.ofNat 8 s.pool.txq.length, BitVec.ofNat 8 s.pool.prq.length,
       BitVec.ofNat 8 s.pool.fwq.length, s.statusRouting, BitVec.ofNat 8 s.kbd.fifo.length, s.call.st.code,
       c9, c10, c11, c12,
       s.statusImages, BitVec.ofNat 8 s.asm.formPosition, s.statusEngine, s.eng.holds.code, causeCode s.eng.cause,
       s.eng.holdCount, s.eng.vc, s.eng.tc, BitVec.ofNat 8 s.eng.dotCurrent,
       lowByte s.eng.lastHeat, highByte s.eng.lastHeat, BitVec.ofNat 8 s.eng.lastBursts,
       lowByte (s.bud.allowance / 10), highByte (s.bud.allowance / 10), s.statusBudget,
       BitVec.ofNat 8 s.bud.table.length, lowByte (s.bud.tableSum / 10), highByte (s.bud.tableSum / 10),
       BitVec.ofNat 8 s.fixedLoad, lowByte s.available, highByte s.available,
       lowByte (s.desired / 10), highByte (s.desired / 10), lowByte (s.bud.own / 10), highByte (s.bud.own / 10),
       lowByte (s.bud.completed / 10), highByte (s.bud.completed / 10),
       lowByte (s.bud.granted / 10), highByte (s.bud.granted / 10)] := by
  unfold State.statusBody
  rw [chars]
  rfl

end Sys2Proof.Machine

/-! PROOFS. The tests of a request, its reply, and STATUS (R184, R185, R186, R188). -/

namespace Sys2Proof.Machine

/-! ## The tests (R185) -/

section Request

variable {s : State} {src : Addr} {kind : Byte} {fits : Bool} {rule : State → State × Answer}

theorem State.request_full (full : 4 ≤ s.line.replies.length) : s.request src kind fits rule = s :=
  if_pos (s.queueFull_iff.2 full)

section Room

variable (room : s.line.replies.length < 4)
include room

theorem State.queueFull_not : ¬ s.queueFull = true := fun full => Nat.not_le.2 room (s.queueFull_iff.1 full)

theorem State.request_start (start : s.msg.op = .start) : s.request src kind fits rule = s.reply src kind (.busy .notInState) :=
  (if_neg (State.queueFull_not room)).trans (if_pos start)

theorem State.request_badLength (awake : s.msg.op ≠ .start) (bad : fits = false) :
    s.request src kind fits rule = s.reply src kind (.refused .badLength) :=
  (if_neg (State.queueFull_not room)).trans <| (if_neg awake).trans (if_neg (by simp [bad]))

theorem State.refuseAction_room (awake : s.msg.op ≠ .start) :
    s.refuseAction src kind = s.reply src kind (.refused .outOfRange) :=
  (if_neg (State.queueFull_not room)).trans <| (if_neg awake).trans (if_pos rfl)

end Room

end Request

theorem State.queueEntry_silent {s : State} {dest : Addr} {kind : Byte} {body : List Byte} (quiet : s.line.listenOnly = true) :
    s.queueEntry dest kind body = s := if_pos quiet

theorem State.queueEntry_joins {s : State} {dest : Addr} {kind : Byte} {body : List Byte} (heard : s.line.listenOnly = false) :
    s.queueEntry dest kind body = s.setLine { s.line with
      replies := s.line.replies ++ [{ dest := dest, kind := kind, body := body, count := 0 }] } :=
  if_neg (by simp [heard])

/-- Settles O55: the tests in their order, the queue, and STATUS character by character. -/
theorem requestTests : Obligations.RequestTests := by
  unfold Obligations.RequestTests
  refine ⟨fun s m src body c kind fits attempt awake other listed => ?_, fun s src sense action args room run => ?_,
    fun s m src kind body attempt awake other room => ?_, fun s awake => ?_,
    fun s dest kind body => ⟨State.queueEntry_silent, State.queueEntry_joins⟩,
    ⟨rfl, rfl, rfl, rfl, fun r => ⟨rfl, rfl, rfl, rfl⟩, rfl⟩, kindKnown_iff,
    fun s src kind a => ⟨State.queueEntry_silent, State.queueEntry_joins⟩⟩
  case refine_1 =>
    intro u
    have line : u.line.replies = s.line.replies := by simp [u]
    have op : u.msg.op = s.msg.op := by simp [u]
    have tests (long : Bool) (rule : State → State × Answer)
        (command : exec c s = .next (s.delivered m s.line.addr src fun x => x.request src kind long rule))
        (length : ∀ n, fits = some n → body.length ≠ n → long = false) :
        (4 ≤ s.line.replies.length → exec c s = .next (State.reviewed s u))
          ∧ (s.line.replies.length < 4 → s.msg.op = .start →
              exec c s = .next (State.reviewed s (u.reply src kind (.busy .notInState))))
          ∧ (s.line.replies.length < 4 → s.msg.op = .run → ∀ n, fits = some n → body.length ≠ n →
              exec c s = .next (State.reviewed s (u.reply src kind (.refused .badLength)))) := by
      rw [s.delivered_heard m _ _ attempt awake other] at command
      rw [← line, ← op]
      exact ⟨fun full => command.trans (reviewed_congr s (State.request_full full)),
        fun room start => command.trans (reviewed_congr s (State.request_start room start)),
        fun room run n known bad => command.trans (reviewed_congr s
          (State.request_badLength room (by rw [run]; decide) (length n known bad)))⟩
    have empty {n : Nat} (known : some 0 = some n) (bad : body.length ≠ n) : body.isEmpty = false := by
      obtain rfl := Option.some.inj known
      simpa [List.length_eq_zero_iff] using bad
    have exact_ {k n : Nat} (known : some k = some n) (bad : body.length ≠ n) : decide (body.length = k) = false := by
      obtain rfl := Option.some.inj known
      exact decide_eq_false bad
    simp only [List.mem_cons, List.not_mem_nil, or_false, Prod.mk.injEq] at listed
    rcases listed with ⟨rfl, rfl, rfl⟩ | ⟨rfl, rfl, rfl⟩ | ⟨rfl, rfl, rfl⟩ | ⟨rfl, rfl, rfl⟩ | ⟨rfl, rfl, rfl⟩ | ⟨rfl, rfl, rfl⟩
      | ⟨rfl, rfl, rfl⟩ | ⟨rfl, rfl, rfl⟩ | ⟨rfl, rfl, rfl⟩ | ⟨rfl, rfl, rfl⟩ | ⟨rfl, rfl, rfl⟩ | ⟨rfl, rfl, rfl⟩
      | ⟨rfl, rfl, rfl⟩ | ⟨rfl, rfl, rfl⟩ | ⟨rfl, rfl, rfl⟩ | ⟨rfl, rfl, rfl⟩
    · exact tests true _ rfl nofun
    · exact tests true _ rfl nofun
    · exact tests _ _ rfl fun n => exact_
    · exact tests _ _ rfl fun n => exact_
    · exact tests _ _ rfl fun n => empty
    · exact tests _ _ rfl fun n => empty
    · exact tests _ _ rfl fun n => empty
    · exact tests _ _ rfl fun n => empty
    · exact tests _ (fun x => x.resumeRule m.sense) rfl fun n => empty
    · exact tests _ _ rfl fun n => empty
    · exact tests _ (fun x => x.stepLineRule m.sense) rfl fun n => empty
    · exact tests _ _ rfl fun n => exact_
    · exact tests _ _ rfl fun n => exact_
    · exact tests _ _ rfl fun n => exact_
    · exact tests _ _ rfl fun n => empty
    · exact tests _ (fun x => x.rawDotLineRule body m.sense) rfl fun n => exact_
  case refine_2 =>
    have started : s.msg.op ≠ .start := by rw [run]; decide
    refine ⟨fun beyond => ?_, fun beyond => ?_, State.request_badLength room started rfl, State.request_badLength room started rfl⟩
    · show s.callByAction src (action :: args) = _
      unfold State.callByAction
      dsimp only
      split
      case h_6 => exact State.refuseAction_room room started
      all_goals omega
    · show s.printControlByAction src (action :: args) sense = _
      unfold State.printControlByAction
      dsimp only
      split
      case h_7 => exact State.refuseAction_room room started
      all_goals omega
  case refine_3 =>
    intro u
    have space : ¬ u.queueFull = true := State.queueFull_not (by simpa [u] using room)
    have named (act : State → State) := s.delivered_heard m s.line.addr act attempt awake other
    refine ⟨fun unknown => ?_, ?_, fun some_ => ?_⟩
    · refine (if_neg (by simp [unknown])).trans (congrArg Host.Outcome.next ((named _).trans (congrArg (State.reviewed s) ?_)))
      exact if_neg space
    · refine congrArg Host.Outcome.next ((named _).trans (congrArg (State.reviewed s) ?_))
      exact (if_neg space).trans (if_pos rfl)
    · refine congrArg Host.Outcome.next ((named _).trans (congrArg (State.reviewed s) ?_))
      exact (if_neg space).trans (if_neg (by simpa using some_))
  case refine_4 =>
    intro b two flags imageCode dropCause h
    obtain ⟨c9, c10, c11, c12, chars, breaks, cause, inCall, params⟩ := s.call.statusChars_eq
    have body := State.statusBody_eq chars
    have at_ (i : Nat) : b i = ((s.statusBody[i]?).getD 0) := rfl
    rw [body] at at_
    have image (st : ImageState) : st.code.toNat = imageCode st := by cases st <;> rfl
    have causes : (dropCode s.call.dropCause).toNat = dropCause := by
      dsimp only [dropCause]
      cases s.call.dropCause with
      | none => rfl
      | some c => cases c <;> rfl
    obtain ⟨battery, fresh, raise⟩ := s.statusBudget_fields
    refine ⟨by rw [body]; rfl, (at_ 0).trans ?_, fun k f here => ?_, at_ 2, at_ 3, at_ 4, at_ 5, ?_, at_ 7, (at_ 8).trans ?_,
      ?_, ?_, ?_, fun p known => ?_, ?_, at_ 14, ?_, fun k f here => ?_, (at_ 17).trans ?_, at_ 18, at_ 19, at_ 20, at_ 21,
      ⟨at_ 22, at_ 23⟩, at_ 24, ⟨at_ 25, at_ 26⟩, ?_, ?_, ?_, at_ 28, ⟨at_ 29, at_ 30⟩, at_ 31, ⟨at_ 32, at_ 33⟩,
      ⟨at_ 34, at_ 35⟩, ⟨at_ 36, at_ 37⟩, ⟨at_ 38, at_ 39⟩, at_ 40, at_ 41⟩
    · show s.msg.op.code = _
      cases op : s.msg.op with
      | start => rfl
      | run => rfl
      | doze => exact absurd op awake
    · rw [at_ 1]
      exact getLsbD_flags _ _ _ _ _ _ _ _ here
    · rw [at_ 6]
      refine (s.statusRouting_toNat).trans ?_
      congr 1
      · congr 1
        congr 1
        · congr 1
          · cases s.router.routing.duplex <;> rfl
          · cases s.router.routing.target <;> rfl
        · cases s.router.routing.copy <;> rfl
      · cases s.router.flow <;> rfl
    · show s.call.st.code = _
      cases s.call.st <;> rfl
    · rw [at_ 9]
      exact breaks
    · rw [at_ 9]
      exact cause.trans causes
    · rw [at_ 9]
      exact inCall
    · rw [at_ 9, at_ 10, at_ 11, at_ 12]
      exact params p known
    · rw [at_ 13, ← image, ← image]
      exact s.statusImages_mod
    · rw [at_ 15]
      refine s.statusEngine_mod.trans ?_
      congr 1
      · cases s.eng.st <;> rfl
      · cases s.eng.step <;> rfl
    · rw [at_ 16]
      exact getLsbD_flags _ _ _ _ _ _ _ _ here
    · show causeCode s.eng.cause = _
      cases s.eng.cause with
      | none => rfl
      | some c => cases c <;> rfl
    · rw [at_ 27]
      exact battery.trans (by cases s.bud.battery <;> rfl)
    · rw [at_ 27]
      exact fresh
    · rw [at_ 27]
      exact raise.trans (by cases s.bud.raise <;> rfl)

end Sys2Proof.Machine

/-! PROOFS. HELD and its conditions, what is claimed and what may be drawn, the neighbour table, and the completion of every
command (R144, R147, R158, R159, R161 to R163, R166). -/

namespace Sys2Proof.Machine

/-! ## HELD -/

/-- Settles O47: each move of the engine agrees with its conditions, and a step is a run of moves. -/
theorem heldLawKept : Obligations.HeldLawKept := by
  intro s t law h
  rw [State.heldLaw_iff] at law ⊢
  exact step_keeps (P := fun d => d.engine.Law) Move.heldLaw (fun _ _ law => law) h law

/-! ## What may be drawn has been claimed -/

/-- The claims' law, of what the digest holds of them. -/
structure ClaimView.Law (v : ClaimView) : Prop where
  completed : v.drawn ≤ v.completed
  own : v.drawn ≤ v.own
  slot : ∀ m n, v.slot = some (m, n) → v.drawn ≤ m ∧ ∀ k, n = some k → v.drawn ≤ k
  asking : ∀ a, v.raise = .asking a → v.own = a ∧ ∃ m n, v.slot = some (m, n) ∧ n.getD m = a

theorem claimView_drawn (b : Budget) (l : Line) : (claimView b l).drawn = b.drawn := by
  unfold ClaimView.drawn Budget.drawn claimView
  cases b.raise <;> rfl

theorem claimView_slot {b : Budget} {l : Line} {c : ClaimSlot} (held : l.claimSlot = some c) :
    (claimView b l).slot = some (c.mA, c.next) := by simp [claimView, held, ClaimSlot.values]

theorem claimView_slot_some {b : Budget} {l : Line} {m : Nat} {n : Option Nat} (held : (claimView b l).slot = some (m, n)) :
    ∃ c, l.claimSlot = some c ∧ c.mA = m ∧ c.next = n := by
  obtain ⟨c, here, values⟩ := Option.map_eq_some_iff.1 held
  obtain ⟨rfl, rfl⟩ := Prod.mk.inj values
  exact ⟨c, here, rfl, rfl⟩

theorem State.claimLaw_iff (s : State) : s.ClaimLaw ↔ s.digest.claim.Law := by
  have drawn : s.digest.claim.drawn = s.bud.drawn := claimView_drawn s.bud s.line
  constructor
  · rintro ⟨completed, own, slot, asking⟩
    refine ⟨drawn.le.trans completed, drawn.le.trans own, fun m n held => ?_, fun a asks => ?_⟩
    · obtain ⟨c, here, rfl, rfl⟩ := claimView_slot_some held
      rw [drawn]
      exact slot c here
    · obtain ⟨same, c, here, last⟩ := asking a asks
      exact ⟨same, c.mA, c.next, claimView_slot here, last⟩
  · rintro ⟨completed, own, slot, asking⟩
    rw [drawn] at completed own slot
    refine ⟨completed, own, fun c here => slot c.mA c.next (claimView_slot here), fun a asks => ?_⟩
    obtain ⟨same, m, n, held, last⟩ := asking a asks
    obtain ⟨c, here, rfl, rfl⟩ := claimView_slot_some held
    exact ⟨same, c, here, last⟩

theorem ClaimView.granted_le_drawn (v : ClaimView) : v.granted ≤ v.drawn := by
  unfold ClaimView.drawn
  split
  · exact Nat.le_max_left _ _
  · exact Nat.le_refl _

theorem ClaimView.drawn_idle {v : ClaimView} (idle : ∀ c, v.raise ≠ .settling c) : v.drawn = v.granted := by
  unfold ClaimView.drawn
  split
  · exact absurd ‹_› (idle _)
  · rfl

/-- A value handed while nothing above it may be drawn: each value still to be sent covers what may be drawn, and the last one
is the value handed. -/
theorem Handed.covers {mA drawn : Nat} {before after : Option (Nat × Option Nat)} (h : Handed mA before after)
    (within : drawn ≤ mA) (old : ∀ m n, before = some (m, n) → drawn ≤ m) :
    (∀ m n, after = some (m, n) → drawn ≤ m ∧ ∀ k, n = some k → drawn ≤ k) ∧ ∃ m n, after = some (m, n) ∧ n.getD m = mA := by
  cases h with
  | taken =>
    refine ⟨?_, mA, none, rfl, rfl⟩
    rintro m n ⟨⟩
    exact ⟨within, nofun⟩
  | waiting m n =>
    refine ⟨?_, m, some mA, rfl, rfl⟩
    rintro m' n' ⟨⟩
    refine ⟨old m n rfl, ?_⟩
    rintro k ⟨⟩
    exact within

/-- Nothing is raised to: what may be drawn is the granted budget, and nothing is asked for. -/
theorem ClaimView.Law.idle {v : ClaimView} (idle : v.raise = .none) (completed : v.granted ≤ v.completed)
    (own : v.granted ≤ v.own) (slot : ∀ m n, v.slot = some (m, n) → v.granted ≤ m ∧ ∀ k, n = some k → v.granted ≤ k) : v.Law := by
  have drawn : v.drawn = v.granted := ClaimView.drawn_idle (by simp [idle])
  exact ⟨drawn.le.trans completed, drawn.le.trans own, by rwa [drawn], by simp [idle]⟩

/-- The value in the slot is sent: the last value handed begins the settle, and it is the own claim. -/
theorem ClaimView.Law.sent {v : ClaimView} (law : v.Law) {mA : Nat} {next : Option Nat} (inSlot : v.slot = some (mA, next)) :
    ({ v with completed := mA, raise := raiseSent v.raise next, slot := next.map fun n => (n, none) } : ClaimView).Law := by
  obtain ⟨covered, waiting⟩ := law.slot mA next inSlot
  have following : ∀ m n, next.map (fun n => (n, (none : Option Nat))) = some (m, n) → next = some m ∧ n = none := by
    intro m n held
    obtain ⟨k, here, values⟩ := Option.map_eq_some_iff.1 held
    obtain ⟨rfl, rfl⟩ := Prod.mk.inj values
    exact ⟨here, rfl⟩
  by_cases settles : ∃ a, v.raise = .asking a ∧ next = none
  · obtain ⟨a, asks, last⟩ := settles
    obtain ⟨own, m, n, held, value⟩ := law.asking a asks
    obtain ⟨rfl, rfl⟩ := Prod.mk.inj (Option.some.inj (inSlot.symm.trans held))
    have amount : mA = a := by rw [← value, last]; rfl
    have granted : v.granted ≤ a := v.granted_le_drawn.trans (covered.trans amount.le)
    have settling : raiseSent v.raise next = .settling a := by rw [asks, last]; rfl
    have drawn : ({ v with completed := mA, raise := .settling a, slot := next.map fun n => (n, none) } : ClaimView).drawn = a :=
      Nat.max_eq_right granted
    rw [settling]
    refine ⟨drawn.le.trans amount.ge, drawn.le.trans own.ge, fun m n held => ?_, nofun⟩
    rw [last] at held
    cases held
  · have raise : raiseSent v.raise next = v.raise := by
      unfold raiseSent
      split
      · exact absurd ⟨_, ‹_›, rfl⟩ settles
      · rfl
    rw [raise]
    refine ⟨covered, law.own, fun m n held => ?_, fun a asks => ?_⟩
    · obtain ⟨here, rfl⟩ := following m n held
      exact ⟨waiting m here, nofun⟩
    · obtain ⟨own, m, n, held, value⟩ := law.asking a asks
      obtain ⟨rfl, rfl⟩ := Prod.mk.inj (Option.some.inj (inSlot.symm.trans held))
      cases next with
      | none => exact absurd ⟨a, asks, rfl⟩ settles
      | some k => exact ⟨own, k, none, rfl, value⟩

theorem ClaimMove.law {L : Label → Prop} {v w : ClaimView} (h : ClaimMove L v w) (law : v.Law) : w.Law := by
  have old (m : Nat) (n : Option Nat) (held : v.slot = some (m, n)) : v.drawn ≤ m := (law.slot m n held).1
  cases h with
  | @raised mA slot free above handed =>
    have drawn : v.drawn = v.granted := ClaimView.drawn_idle (by simp [free])
    rw [drawn] at old
    obtain ⟨covered, last⟩ := handed.covers above old
    refine ⟨drawn.ge.trans law.completed, above, covered, ?_⟩
    rintro a ⟨⟩
    exact ⟨rfl, last⟩
  | @lowered mA slot within handed =>
    obtain ⟨covered, -⟩ := handed.covers (le_refl mA) fun m n held => within.trans (old m n held)
    exact .idle rfl (within.trans law.completed) (le_refl mA) covered
  | settled within =>
    refine .idle rfl (within.trans law.completed) (within.trans law.own) fun m n held => ?_
    obtain ⟨covered, waiting⟩ := law.slot m n held
    exact ⟨within.trans covered, fun k next => within.trans (waiting k next)⟩
  | released => exact .idle rfl (Nat.zero_le _) (Nat.zero_le _) fun _ _ _ => ⟨Nat.zero_le _, fun _ _ => Nat.zero_le _⟩
  | restated handed =>
    obtain ⟨covered, last⟩ := handed.covers law.own old
    refine ⟨law.completed, law.own, covered, fun a asks => ?_⟩
    obtain ⟨own, -⟩ := law.asking a asks
    rw [← own]
    exact ⟨rfl, last⟩
  | sent label inSlot => exact law.sent inSlot
  | @followed mA next inSlot =>
    refine ⟨law.completed, law.own, ?_, fun a asks => ?_⟩
    · rintro m n ⟨⟩
      exact ⟨(law.slot mA (some next) inSlot).2 next rfl, nofun⟩
    · obtain ⟨own, m, n, held, value⟩ := law.asking a asks
      obtain ⟨rfl, rfl⟩ := Prod.mk.inj (Option.some.inj (inSlot.symm.trans held))
      exact ⟨own, next, none, rfl, value⟩
  | dropped quiet => exact ⟨law.completed, law.own, nofun, fun a asks => absurd asks (quiet a)⟩
  | abandoned =>
    have granted : v.granted ≤ v.completed := v.granted_le_drawn.trans law.completed
    exact .idle rfl granted granted nofun
  | silenced => exact .idle rfl (Nat.zero_le _) (Nat.zero_le _) nofun

theorem Move.claimLaw {L : Label → Prop} {d e : Digest} (h : Move L d e) (law : d.claim.Law) : e.claim.Law := by
  have nothing : (⟨.none, 0, 0, 0, none⟩ : ClaimView).Law := .idle rfl (le_refl 0) (le_refl 0) nofun
  cases h with
  | claim h => exact h.law law
  | restart => exact nothing
  | powerUp => exact nothing
  | _ => exact law

/-! ## The neighbour table -/

/-- The neighbour table's law, for a part of that address. -/
structure NeighbourTable (own : Addr) (table : List Neighbour) : Prop where
  once : (table.map Neighbour.addr).Nodup
  entries : ∀ e ∈ table, e.addr ≠ 0 ∧ e.addr ≠ 15 ∧ e.addr ≠ own ∧ 0 < e.mA ∧ e.mA ≤ Config.maxCurrent ∧
    e.age < Config.entryDropAge

theorem NeighbourTable.empty (own : Addr) : NeighbourTable own [] := ⟨List.nodup_nil, nofun⟩

section Table

variable {own : Addr} {table : List Neighbour} (law : NeighbourTable own table)
include law

theorem NeighbourTable.filter (p : Neighbour → Bool) : NeighbourTable own (table.filter p) where
  once := law.once.sublist (List.filter_sublist.map _)
  entries := fun e mem => law.entries e (List.mem_filter.1 mem).1

/-- An entry of a new source joins. -/
theorem NeighbourTable.add {src : Addr} {mA : Nat} (a : src ≠ 0) (b : src ≠ 15) (c : src ≠ own) (some_ : 0 < mA)
    (within : mA ≤ Config.maxCurrent) (new : table.any (fun e => e.addr = src) = false) :
    NeighbourTable own (table ++ [{ addr := src, mA := mA, age := 0 }]) where
  once := by
    rw [List.map_append, List.map_singleton]
    refine List.nodup_append.2 ⟨law.once, List.nodup_singleton _, ?_⟩
    intro x there y here same
    obtain rfl := List.mem_singleton.1 here
    obtain ⟨e, mem, rfl⟩ := List.mem_map.1 there
    exact List.any_eq_false.1 new e mem (by simpa using same)
  entries := by
    intro e mem
    obtain old | new := List.mem_append.1 mem
    · exact law.entries e old
    · obtain rfl := List.mem_singleton.1 new
      exact ⟨a, b, c, some_, within, show 0 < Config.entryDropAge by decide⟩

/-- The entry of a known source takes the new value. -/
theorem NeighbourTable.replace {src : Addr} {mA : Nat} (some_ : 0 < mA) (within : mA ≤ Config.maxCurrent) :
    NeighbourTable own (table.map fun e => if e.addr = src then { e with mA := mA, age := 0 } else e) where
  once := by
    have kept : (table.map fun e => if e.addr = src then { e with mA := mA, age := 0 } else e).map Neighbour.addr
        = table.map Neighbour.addr := by
      rw [List.map_map]
      refine List.map_congr_left fun e _ => ?_
      show (if e.addr = src then { e with mA := mA, age := 0 } else e : Neighbour).addr = e.addr
      split <;> rfl
    rw [kept]
    exact law.once
  entries := by
    intro e mem
    obtain ⟨old, there, rfl⟩ := List.mem_map.1 mem
    obtain ⟨a, b, c, low, high, age⟩ := law.entries old there
    split
    · exact ⟨a, b, c, some_, within, show 0 < Config.entryDropAge by decide⟩
    · exact ⟨a, b, c, low, high, age⟩

/-- A tick ages the entries, and those of the age limit leave. -/
theorem NeighbourTable.aged : NeighbourTable own
    ((table.map fun e => { e with age := e.age + 1 }).filter fun e => decide (e.age < Config.entryDropAge)) where
  once := by
    refine List.Nodup.sublist (List.filter_sublist.map _) ?_
    rw [List.map_map]
    exact law.once
  entries := by
    intro e mem
    obtain ⟨aged, young⟩ := List.mem_filter.1 mem
    obtain ⟨old, there, rfl⟩ := List.mem_map.1 aged
    obtain ⟨a, b, c, low, high, -⟩ := law.entries old there
    exact ⟨a, b, c, low, high, of_decide_eq_true young⟩

end Table

theorem TableMove.law {own : Addr} {b : Budget} {t : List Neighbour} (h : TableMove own b t) (law : NeighbourTable own b.table) :
    NeighbourTable own t := by
  cases h with
  | claim src mA within =>
    by_cases ignored : src = 0 ∨ src = 15 ∨ src = own
    · have same : b.hearClaim own src mA = b := if_pos ignored
      rwa [same]
    · obtain ⟨a, c, d⟩ : src ≠ 0 ∧ src ≠ 15 ∧ src ≠ own := by simpa using ignored
      obtain rfl | some_ := Nat.eq_zero_or_pos mA
      · rw [Budget.hearClaim_zero a c d]
        exact law.filter _
      · cases known : b.table.any (fun e => e.addr = src) with
        | false =>
          rw [Budget.hearClaim_added a c d some_.ne' known]
          exact law.add a c d some_ within known
        | true =>
          rw [Budget.hearClaim_replaced a c d some_.ne' known]
          exact law.replace some_ within
  | present src =>
    unfold Budget.hearPresent
    split
    · exact law
    · exact law.filter _
  | aged => exact law.aged
  | cleared => exact .empty own

theorem State.tableLaw_iff (s : State) : s.TableLaw ↔ NeighbourTable s.digest.addr s.digest.table :=
  ⟨fun ⟨once, entries⟩ => ⟨once, entries⟩, fun ⟨once, entries⟩ => ⟨once, entries⟩⟩

theorem Move.tableLaw {L : Label → Prop} {d e : Digest} (h : Move L d e) (law : NeighbourTable d.addr d.table) :
    NeighbourTable e.addr e.table := by
  cases h with
  | table here h => exact h.law (by rwa [here])
  | restart => exact .empty _
  | powerUp => exact .empty _
  | _ => exact law

/-- Settles O50: each move keeps what may be drawn within every value claimed, and each change of the table keeps it a table. -/
theorem claimLawsKept : Obligations.ClaimLawsKept := by
  constructor
  · intro s t law h
    rw [State.claimLaw_iff] at law ⊢
    exact step_keeps (P := fun d => d.claim.Law) Move.claimLaw (fun _ _ law => law) h law
  · intro s t law h
    rw [State.tableLaw_iff] at law ⊢
    exact step_keeps (P := fun d => NeighbourTable d.addr d.table) Move.tableLaw (fun _ _ law => law) h law

/-! ## Every command completes -/

theorem Move.pending_kept {L : Label → Prop} {d e : Digest} (h : Move L d e) : e.pending = d.pending := by
  cases h <;> rfl

/-- Settles O2: what a command does is a run of moves, none of which touches the waiting queue. -/
theorem everyCommandCompletes : Obligations.EveryCommandCompletes := by
  intro c s
  obtain ⟨t, answers, does⟩ := exec_answers c s
  exact ⟨t, answers, Moves.keeps (P := fun d => d.pending = s.pending) (fun _ _ move same => move.pending_kept.trans same) does rfl⟩

end Sys2Proof.Machine
